-- ==== Sys2Proof/Word.lean ====
section
/-! DEFINITION. The widths of the values the K-Line core holds (10_state.md R22, 00_scope.md R8): bytes, the 16-bit counters
and the 64-bit microsecond timestamps. -/

namespace Sys2Proof

/-- One byte on the K-Line, in the frame buffer or in a record. -/
abbrev Byte := BitVec 8

/-- A counter of the codec: `CNT_WIDTH` = 16 bits (00_scope.md R8). -/
abbrev Count := BitVec 16

/-- A timestamp or a sample of `now`, in µs: `TIME_WIDTH` = 64 bits (00_scope.md R8, 10_state.md R45). -/
abbrev Time := BitVec 64

/-- An outbound record, byte 0 first (30_encoding.md R85). -/
abbrev Record := List Byte

end Sys2Proof
end

