-- ==== Sys2Proof/Syntax.lean ====
section
/-! DEFINITION. The syntax: one constructor of `Instr` for each of the 66 rows of spec/opcode_table.json, with the operands
that 30_encoding.md R89, R92, R93, R94 and the table's own field lists give it. -/

namespace Sys2Proof

/-- The table's formats. The code spaces overlap (event 0x1, micro-operation 0x01, control byte 0x01 …), so a stimulus item
says which space its bytes are read in (assumption log 2). -/
inductive Format where
  /-- 30_encoding.md R93: a 4-bit event code and its arguments. -/
  | event4
  /-- 30_encoding.md R94: a 5-bit micro-operation code and its operands. -/
  | uop5
  /-- 30_encoding.md R89: a one-byte transport payload that is a command. -/
  | payload1
  /-- 45_command_dispatch.md R274: any other transport payload. -/
  | payload
  /-- 30_encoding.md R80: a transmitted K-Line command. -/
  | klineCmd
  /-- 30_encoding.md R82: a received response frame. -/
  | klineResp
  /-- 30_encoding.md R85: a 70-byte outbound record. -/
  | record70
  /-- 10_state.md R23: a value of `pstate`. -/
  | pstate2
  /-- 10_state.md R36: a value of `line_mode`. -/
  | lineMode2
  /-- 30_encoding.md R90: a result code. -/
  | result
  /-- 30_encoding.md R92: a FrameEvent. -/
  | frameEvent
  /-- 30_encoding.md R92: a SequencerEvent. -/
  | sequencerEvent
  deriving DecidableEq, Repr

/-- One stimulus: the bytes of one instruction, read in one format. Zero bytes may follow it. -/
structure Item where
  fmt : Format
  bytes : List Byte
  deriving DecidableEq, Repr

/-- The states a status record can name (44_outbound_bridge.md R256: never `0b11`). -/
inductive Status where
  | init
  | startSession
  | active
  deriving DecidableEq, Repr

/-- The rows of spec/opcode_table.json. A draw is `true` for `ok` and `false` for `fail`. -/
inductive Instr where
  -- external events (30_encoding.md R93)
  | evInit
  | evStart (now : Time) (linkInitOk timerStartOk : Bool)
  | evStop (timerStopOk linkDeinitOk : Bool)
  | evTick (now : Time)
  | evRxByte (b : Byte)
  | evPop
  | evPayload (p : List Byte) (now : Time) (linkInitOk timerStartOk timerStopOk linkDeinitOk : Bool)
  | evConnected
  | evDisconnected
  -- reserved event codes (30_encoding.md R93, R95)
  | evReserved9
  | evReservedA
  | evReservedB
  | evReservedC
  | evReservedD
  | evReservedE
  | evReservedF
  -- micro-operations (30_encoding.md R94)
  | feed (b : Byte)
  | eofReset
  | seqStep (now : Time)
  | tickInit (now : Time)
  | tickSession (now : Time)
  | tickIllegal (now : Time)
  | thresholdCheck (now : Time)
  | rxDrain (now : Time)
  | txStep (now : Time)
  | watchdogCheck (now : Time)
  | enterInit (now : Time)
  | enterStartSession (now : Time)
  | enterActive (now : Time)
  | enqueue (rec : Record)
  | emitStatus (st : Status)
  | emitFrame (f : List Byte)
  | txWrite (b : Byte)
  | rxFlush
  -- inbound payloads (30_encoding.md R89), with the arguments R93 gives EV_PAYLOAD and the selected operation reads
  | ctrl01 (now : Time) (linkInitOk timerStartOk : Bool)
  | ctrl67 (now : Time) (linkInitOk timerStartOk : Bool)
  | ctrl00 (timerStopOk linkDeinitOk : Bool)
  | ctrl73 (timerStopOk linkDeinitOk : Bool)
  | ctrlFF (timerStopOk linkDeinitOk : Bool)
  | ctrl72 (timerStopOk linkDeinitOk : Bool)
  | ctrlOther (p : List Byte)
  -- K-Line frames (30_encoding.md R80, R82)
  | cmdStartSession
  | cmdReadSensors
  | respFrame (h0 h1 h2 : Byte) (payload : List Byte) (checksum : Byte)
  -- outbound records (30_encoding.md R85, R86, R88)
  | recData (payload : List Byte)
  | recText (payload : List Byte)
  | recOtherKind (rec : Record)
  | statusInit
  | statusStartSession
  | statusActive
  -- encodings of internal values (10_state.md R23, R36; 30_encoding.md R90, R92)
  | pstateInit
  | pstateStartSession
  | pstateActive
  | pstateIllegal
  | lineOff
  | linePulse
  | lineUart
  | lineMode3
  | resOk
  | resErrLink
  | resErrTimer
  | feContinue
  | feFrameReady (now : Time) (f : List Byte)
  | feChecksumError (now : Time) (received computed : Byte)
  | seInProgress
  | seDone (now : Time)
  deriving DecidableEq, Repr

end Sys2Proof
end

