-- ==== Sys2Proof/WellFormed.lean ====
section
/-! DEFINITION. Which instructions are well formed: the bounds the encodings of 30_encoding.md put on their operands. -/

namespace Sys2Proof

/-- The ASCII text of a status (30_encoding.md R86): "init", "start_session", "active". -/
def Status.text : Status → List Byte
  | .init => [0x69, 0x6E, 0x69, 0x74]
  | .startSession => [0x73, 0x74, 0x61, 0x72, 0x74, 0x5F, 0x73, 0x65, 0x73, 0x73, 0x69, 0x6F, 0x6E]
  | .active => [0x61, 0x63, 0x74, 0x69, 0x76, 0x65]

/-- The payload is one of the three status texts, whose records have rows of their own. -/
def isStatusText (p : List Byte) : Bool :=
  p == Status.text .init || p == Status.text .startSession || p == Status.text .active

/-- The six command bytes of 30_encoding.md R89. -/
def isCommandByte (b : Byte) : Bool :=
  b == 0x01 || b == 0x67 || b == 0x00 || b == 0x73 || b == 0xFF || b == 0x72

/-- The payload is exactly one command byte (45_command_dispatch.md R270). -/
def isCommandPayload : List Byte → Bool
  | [b] => isCommandByte b
  | _ => false

/-- A 70-byte record of the row REC_OTHER_KIND: its kind is none of `0x01`, `0x02`, or its length is above 68
(30_encoding.md R88). -/
def isOtherKindRecord (rec : Record) : Bool :=
  rec.length == 70 &&
    (!(rec.getD 0 0 == 0x01 || rec.getD 0 0 == 0x02) || decide (68 < (rec.getD 1 0).toNat))

/-- The operands fit the row's encoding. -/
def Instr.wf : Instr → Bool
  | .evInit | .evStart _ _ _ | .evStop _ _ | .evTick _ | .evRxByte _ | .evPop
  | .evPayload _ _ _ _ _ _ | .evConnected | .evDisconnected => true
  | .evReserved9 | .evReservedA | .evReservedB | .evReservedC | .evReservedD | .evReservedE
  | .evReservedF => true
  | .feed _ | .eofReset | .seqStep _ | .tickInit _ | .tickSession _ | .tickIllegal _
  | .thresholdCheck _ | .rxDrain _ | .txStep _ | .watchdogCheck _ | .enterInit _
  | .enterStartSession _ | .enterActive _ | .enqueue _ | .emitStatus _ | .emitFrame _
  | .txWrite _ | .rxFlush => true
  | .ctrl01 _ _ _ | .ctrl67 _ _ _ | .ctrl00 _ _ | .ctrl73 _ _ | .ctrlFF _ _ | .ctrl72 _ _ => true
  | .ctrlOther p => !isCommandPayload p
  | .cmdStartSession | .cmdReadSensors => true
  | .respFrame _ _ _ payload _ => decide (payload.length ≤ 255)
  | .recData payload => decide (payload.length ≤ 68)
  | .recText payload => decide (payload.length ≤ 68) && !isStatusText payload
  | .recOtherKind rec => isOtherKindRecord rec
  | .statusInit | .statusStartSession | .statusActive => true
  | .pstateInit | .pstateStartSession | .pstateActive | .pstateIllegal => true
  | .lineOff | .linePulse | .lineUart | .lineMode3 => true
  | .resOk | .resErrLink | .resErrTimer => true
  | .feContinue | .feFrameReady _ _ | .feChecksumError _ _ _ => true
  | .seInProgress | .seDone _ => true

end Sys2Proof
end

