-- ==== Sys2Proof/Decode.lean ====
section
/-! DEFINITION. The decoder of one stimulus item, total on any bytes and rejecting by name, then the encoder, then the reading
of a bare word of spec/opcode_table.json. The codes are those of 30_encoding.md; the byte layout of the arguments is the
model's own (assumption log 3). -/

namespace Sys2Proof

/-- Why the bytes of an item are no instruction. -/
inductive DecodeError where
  /-- The bytes end inside the instruction. -/
  | truncated
  /-- The code is unassigned in its format. -/
  | unassignedCode (fmt : Format) (code : Byte)
  /-- A draw is neither `0x00` (ok) nor `0x01` (fail). -/
  | badDraw (b : Byte)
  /-- A byte sequence's marker is neither `0x00` (end) nor `0x01` (one more byte). -/
  | badSequenceMarker (b : Byte)
  /-- A payload of the "any other payload" row is a command byte. -/
  | commandPayload
  /-- Neither of the two commands of the command store. -/
  | unknownCommand
  /-- A record whose padding is not zero (30_encoding.md R85). -/
  | recordPadding
  /-- EMIT_STATUS of the illegal state `0b11` (44_outbound_bridge.md R256). -/
  | statusOfIllegalState
  /-- Bytes other than zeros follow the instruction. -/
  | trailingBytes
  deriving DecidableEq, Repr

/-- A reader of bytes: a value and the bytes that follow it, or an error. -/
abbrev Parser (α : Type) := List Byte → Except DecodeError (α × List Byte)

/-- Read with `p`, then go on with what it read. -/
def andThen {α β : Type} (p : Parser α) (k : α → Parser β) : Parser β := fun bs =>
  match p bs with
  | .error e => .error e
  | .ok (a, rest) => k a rest

/-- Read nothing. -/
def give {α : Type} (a : α) : Parser α := fun bs => .ok (a, bs)

/-- Reject. -/
def reject {α : Type} (e : DecodeError) : Parser α := fun _ => .error e

/-- One byte. -/
def takeByte : Parser Byte
  | [] => .error .truncated
  | b :: rest => .ok (b, rest)

/-- Exactly `n` bytes. -/
def takeBytes : Nat → Parser (List Byte)
  | 0 => give []
  | n + 1 => andThen takeByte fun b => andThen (takeBytes n) fun bs => give (b :: bs)

/-- A timestamp: eight bytes, least significant first (assumption log 3). -/
def takeTime : Parser Time
  | b0 :: b1 :: b2 :: b3 :: b4 :: b5 :: b6 :: b7 :: rest =>
    .ok (BitVec.ofNat 64 (b0.toNat + 256 * (b1.toNat + 256 * (b2.toNat + 256 * (b3.toNat + 256 * (b4.toNat
      + 256 * (b5.toNat + 256 * (b6.toNat + 256 * b7.toNat))))))), rest)
  | _ => .error .truncated

/-- A peripheral draw: `0x00` ok, `0x01` fail (assumption log 3). -/
def takeDraw : Parser Bool
  | [] => .error .truncated
  | b :: rest => if b = 0 then .ok (true, rest) else if b = 1 then .ok (false, rest) else .error (.badDraw b)

/-- A byte sequence of any length: `0x01` before each byte, `0x00` at the end (assumption log 3). -/
def takeSeq : Parser (List Byte)
  | [] => .error .truncated
  | [m] => if m = 0 then .ok ([], []) else if m = 1 then .error .truncated else .error (.badSequenceMarker m)
  | m :: b :: rest =>
    if m = 0 then .ok ([], b :: rest)
    else if m = 1 then
      match takeSeq rest with
      | .error e => .error e
      | .ok (bs, rest') => .ok (b :: bs, rest')
    else .error (.badSequenceMarker m)

/-- The state an EMIT_STATUS names, encoded as `pstate` is (10_state.md R23). -/
def takeStatus : Parser Status := andThen takeByte fun b =>
  if b = 0 then give .init
  else if b = 1 then give .startSession
  else if b = 2 then give .active
  else reject .statusOfIllegalState

/-- The events of 30_encoding.md R93. -/
def decodeEvent (code : Byte) : Parser Instr :=
  match code.toNat with
  | 0 => give .evInit
  | 1 => andThen takeTime fun now => andThen takeDraw fun l => andThen takeDraw fun t => give (.evStart now l t)
  | 2 => andThen takeDraw fun t => andThen takeDraw fun l => give (.evStop t l)
  | 3 => andThen takeTime fun now => give (.evTick now)
  | 4 => andThen takeByte fun b => give (.evRxByte b)
  | 5 => give .evPop
  | 6 => andThen takeSeq fun p => andThen takeTime fun now => andThen takeDraw fun li => andThen takeDraw fun ts =>
      andThen takeDraw fun tp => andThen takeDraw fun ld => give (.evPayload p now li ts tp ld)
  | 7 => give .evConnected
  | 8 => give .evDisconnected
  | 9 => give .evReserved9
  | 10 => give .evReservedA
  | 11 => give .evReservedB
  | 12 => give .evReservedC
  | 13 => give .evReservedD
  | 14 => give .evReservedE
  | 15 => give .evReservedF
  | _ => reject (.unassignedCode .event4 code)

/-- The micro-operations of 30_encoding.md R94. -/
def decodeUop (code : Byte) : Parser Instr :=
  match code.toNat with
  | 0 => andThen takeByte fun b => give (.feed b)
  | 1 => give .eofReset
  | 2 => andThen takeTime fun now => give (.seqStep now)
  | 3 => andThen takeTime fun now => give (.tickInit now)
  | 4 => andThen takeTime fun now => give (.tickSession now)
  | 5 => andThen takeTime fun now => give (.tickIllegal now)
  | 6 => andThen takeTime fun now => give (.thresholdCheck now)
  | 7 => andThen takeTime fun now => give (.rxDrain now)
  | 8 => andThen takeTime fun now => give (.txStep now)
  | 9 => andThen takeTime fun now => give (.watchdogCheck now)
  | 10 => andThen takeTime fun now => give (.enterInit now)
  | 11 => andThen takeTime fun now => give (.enterStartSession now)
  | 12 => andThen takeTime fun now => give (.enterActive now)
  | 13 => andThen takeSeq fun r => give (.enqueue r)
  | 14 => andThen takeStatus fun st => give (.emitStatus st)
  | 15 => andThen takeSeq fun f => give (.emitFrame f)
  | 16 => andThen takeByte fun b => give (.txWrite b)
  | 17 => give .rxFlush
  | _ => reject (.unassignedCode .uop5 code)

/-- The control bytes of 30_encoding.md R89. -/
def decodeControl (code : Byte) : Parser Instr :=
  if code = 0x01 then
    andThen takeTime fun now => andThen takeDraw fun l => andThen takeDraw fun t => give (.ctrl01 now l t)
  else if code = 0x67 then
    andThen takeTime fun now => andThen takeDraw fun l => andThen takeDraw fun t => give (.ctrl67 now l t)
  else if code = 0x00 then andThen takeDraw fun t => andThen takeDraw fun l => give (.ctrl00 t l)
  else if code = 0x73 then andThen takeDraw fun t => andThen takeDraw fun l => give (.ctrl73 t l)
  else if code = 0xFF then andThen takeDraw fun t => andThen takeDraw fun l => give (.ctrlFF t l)
  else if code = 0x72 then andThen takeDraw fun t => andThen takeDraw fun l => give (.ctrl72 t l)
  else reject (.unassignedCode .payload1 code)

/-- The start-session command of the command store (30_encoding.md R80). -/
def startSessionCommand : List Byte := [0x81, 0x12, 0xF1, 0x81, 0x05]

/-- The read-all-sensors command of the command store (30_encoding.md R80). -/
def readSensorsCommand : List Byte := [0x80, 0x12, 0xF1, 0x02, 0x21, 0x08, 0xAE]

/-- A transmitted command frame (30_encoding.md R80). -/
def decodeCommand : Parser Instr := fun bs =>
  if bs.take 5 = startSessionCommand then .ok (.cmdStartSession, bs.drop 5)
  else if bs.take 7 = readSensorsCommand then .ok (.cmdReadSensors, bs.drop 7)
  else .error .unknownCommand

/-- A response frame: its length only from the byte at offset 3 (30_encoding.md R82, R83, R84). -/
def decodeResponse : Parser Instr :=
  andThen takeByte fun h0 => andThen takeByte fun h1 => andThen takeByte fun h2 => andThen takeByte fun n =>
    andThen (takeBytes n.toNat) fun p => andThen takeByte fun c => give (.respFrame h0 h1 h2 p c)

/-- Which row a well-formed record of 70 bytes is: a Data record, one of the three status records, or another Text record
(30_encoding.md R85, R86). -/
def classifyRecord (kind : Byte) (payload : List Byte) : Instr :=
  if kind = 0x01 then .recData payload
  else if payload = Status.text .init then .statusInit
  else if payload = Status.text .startSession then .statusStartSession
  else if payload = Status.text .active then .statusActive
  else .recText payload

/-- A 70-byte record (30_encoding.md R85, R86, R88). -/
def decodeRecord : Parser Instr := andThen (takeBytes 70) fun rec =>
  if isOtherKindRecord rec then give (.recOtherKind rec)
  else
    let len := (rec.getD 1 0).toNat
    if ((rec.drop (2 + len)).all fun b => b == 0) then give (classifyRecord (rec.getD 0 0) ((rec.drop 2).take len))
    else reject .recordPadding

/-- A value of `pstate` (10_state.md R23). -/
def decodePstate (code : Byte) : Parser Instr :=
  match code.toNat with
  | 0 => give .pstateInit
  | 1 => give .pstateStartSession
  | 2 => give .pstateActive
  | 3 => give .pstateIllegal
  | _ => reject (.unassignedCode .pstate2 code)

/-- A value of `line_mode` (10_state.md R36). -/
def decodeLineMode (code : Byte) : Parser Instr :=
  match code.toNat with
  | 0 => give .lineOff
  | 1 => give .linePulse
  | 2 => give .lineUart
  | 3 => give .lineMode3
  | _ => reject (.unassignedCode .lineMode2 code)

/-- A result code (30_encoding.md R90). -/
def decodeResult (code : Byte) : Parser Instr :=
  match code.toNat with
  | 0 => give .resOk
  | 1 => give .resErrLink
  | 2 => give .resErrTimer
  | _ => reject (.unassignedCode .result code)

/-- A FrameEvent with what it carries (30_encoding.md R92). -/
def decodeFrameEvent (code : Byte) : Parser Instr :=
  match code.toNat with
  | 0 => give .feContinue
  | 1 => andThen takeTime fun now => andThen takeSeq fun f => give (.feFrameReady now f)
  | 2 => andThen takeTime fun now => andThen takeByte fun r => andThen takeByte fun c => give (.feChecksumError now r c)
  | _ => reject (.unassignedCode .frameEvent code)

/-- A SequencerEvent (30_encoding.md R92). -/
def decodeSequencerEvent (code : Byte) : Parser Instr :=
  match code.toNat with
  | 0 => give .seInProgress
  | 1 => andThen takeTime fun now => give (.seDone now)
  | _ => reject (.unassignedCode .sequencerEvent code)

/-- The instruction at the start of the bytes, read in the given format, and the bytes after it. -/
def decode : Format → Parser Instr
  | .event4 => andThen takeByte decodeEvent
  | .uop5 => andThen takeByte decodeUop
  | .payload1 => andThen takeByte decodeControl
  | .payload => andThen takeSeq fun p => if isCommandPayload p then reject .commandPayload else give (.ctrlOther p)
  | .klineCmd => decodeCommand
  | .klineResp => decodeResponse
  | .record70 => decodeRecord
  | .pstate2 => andThen takeByte decodePstate
  | .lineMode2 => andThen takeByte decodeLineMode
  | .result => andThen takeByte decodeResult
  | .frameEvent => andThen takeByte decodeFrameEvent
  | .sequencerEvent => andThen takeByte decodeSequencerEvent

/-- The instruction of a whole item; only zero bytes may follow it. -/
def decodeItem (it : Item) : Except DecodeError Instr :=
  match decode it.fmt it.bytes with
  | .error e => .error e
  | .ok (i, rest) => if rest.all fun b => b == 0 then .ok i else .error .trailingBytes

/-! ### The encoder -/

/-- A timestamp as eight bytes, least significant first. -/
def timeBytes (t : Time) : List Byte :=
  [BitVec.ofNat 8 t.toNat, BitVec.ofNat 8 (t.toNat / 256), BitVec.ofNat 8 (t.toNat / 256 ^ 2),
   BitVec.ofNat 8 (t.toNat / 256 ^ 3), BitVec.ofNat 8 (t.toNat / 256 ^ 4), BitVec.ofNat 8 (t.toNat / 256 ^ 5),
   BitVec.ofNat 8 (t.toNat / 256 ^ 6), BitVec.ofNat 8 (t.toNat / 256 ^ 7)]

/-- A draw: `0x00` ok, `0x01` fail. -/
def drawByte (d : Bool) : Byte := if d then 0 else 1

/-- A byte sequence of any length. -/
def seqBytes : List Byte → List Byte
  | [] => [0]
  | b :: bs => 1 :: b :: seqBytes bs

/-- The `pstate` code of the state a status names. -/
def statusByte : Status → Byte
  | .init => 0
  | .startSession => 1
  | .active => 2

/-- A 70-byte record: kind, length, payload, zeros (30_encoding.md R85). -/
def recordBytes (kind : Byte) (payload : List Byte) : List Byte :=
  kind :: BitVec.ofNat 8 payload.length :: (payload ++ List.replicate (68 - payload.length) 0)

/-- The item of a well-formed instruction. -/
def encode : Instr → Item
  | .evInit => ⟨.event4, [0x0]⟩
  | .evStart now l t => ⟨.event4, 0x1 :: (timeBytes now ++ [drawByte l, drawByte t])⟩
  | .evStop t l => ⟨.event4, [0x2, drawByte t, drawByte l]⟩
  | .evTick now => ⟨.event4, 0x3 :: timeBytes now⟩
  | .evRxByte b => ⟨.event4, [0x4, b]⟩
  | .evPop => ⟨.event4, [0x5]⟩
  | .evPayload p now li ts tp ld =>
    ⟨.event4, 0x6 :: (seqBytes p ++ (timeBytes now ++ [drawByte li, drawByte ts, drawByte tp, drawByte ld]))⟩
  | .evConnected => ⟨.event4, [0x7]⟩
  | .evDisconnected => ⟨.event4, [0x8]⟩
  | .evReserved9 => ⟨.event4, [0x9]⟩
  | .evReservedA => ⟨.event4, [0xA]⟩
  | .evReservedB => ⟨.event4, [0xB]⟩
  | .evReservedC => ⟨.event4, [0xC]⟩
  | .evReservedD => ⟨.event4, [0xD]⟩
  | .evReservedE => ⟨.event4, [0xE]⟩
  | .evReservedF => ⟨.event4, [0xF]⟩
  | .feed b => ⟨.uop5, [0x00, b]⟩
  | .eofReset => ⟨.uop5, [0x01]⟩
  | .seqStep now => ⟨.uop5, 0x02 :: timeBytes now⟩
  | .tickInit now => ⟨.uop5, 0x03 :: timeBytes now⟩
  | .tickSession now => ⟨.uop5, 0x04 :: timeBytes now⟩
  | .tickIllegal now => ⟨.uop5, 0x05 :: timeBytes now⟩
  | .thresholdCheck now => ⟨.uop5, 0x06 :: timeBytes now⟩
  | .rxDrain now => ⟨.uop5, 0x07 :: timeBytes now⟩
  | .txStep now => ⟨.uop5, 0x08 :: timeBytes now⟩
  | .watchdogCheck now => ⟨.uop5, 0x09 :: timeBytes now⟩
  | .enterInit now => ⟨.uop5, 0x0A :: timeBytes now⟩
  | .enterStartSession now => ⟨.uop5, 0x0B :: timeBytes now⟩
  | .enterActive now => ⟨.uop5, 0x0C :: timeBytes now⟩
  | .enqueue r => ⟨.uop5, 0x0D :: seqBytes r⟩
  | .emitStatus st => ⟨.uop5, [0x0E, statusByte st]⟩
  | .emitFrame f => ⟨.uop5, 0x0F :: seqBytes f⟩
  | .txWrite b => ⟨.uop5, [0x10, b]⟩
  | .rxFlush => ⟨.uop5, [0x11]⟩
  | .ctrl01 now l t => ⟨.payload1, 0x01 :: (timeBytes now ++ [drawByte l, drawByte t])⟩
  | .ctrl67 now l t => ⟨.payload1, 0x67 :: (timeBytes now ++ [drawByte l, drawByte t])⟩
  | .ctrl00 t l => ⟨.payload1, [0x00, drawByte t, drawByte l]⟩
  | .ctrl73 t l => ⟨.payload1, [0x73, drawByte t, drawByte l]⟩
  | .ctrlFF t l => ⟨.payload1, [0xFF, drawByte t, drawByte l]⟩
  | .ctrl72 t l => ⟨.payload1, [0x72, drawByte t, drawByte l]⟩
  | .ctrlOther p => ⟨.payload, seqBytes p⟩
  | .cmdStartSession => ⟨.klineCmd, startSessionCommand⟩
  | .cmdReadSensors => ⟨.klineCmd, readSensorsCommand⟩
  | .respFrame h0 h1 h2 p c => ⟨.klineResp, h0 :: h1 :: h2 :: BitVec.ofNat 8 p.length :: (p ++ [c])⟩
  | .recData p => ⟨.record70, recordBytes 0x01 p⟩
  | .recText p => ⟨.record70, recordBytes 0x02 p⟩
  | .recOtherKind r => ⟨.record70, r⟩
  | .statusInit => ⟨.record70, recordBytes 0x02 (Status.text .init)⟩
  | .statusStartSession => ⟨.record70, recordBytes 0x02 (Status.text .startSession)⟩
  | .statusActive => ⟨.record70, recordBytes 0x02 (Status.text .active)⟩
  | .pstateInit => ⟨.pstate2, [0]⟩
  | .pstateStartSession => ⟨.pstate2, [1]⟩
  | .pstateActive => ⟨.pstate2, [2]⟩
  | .pstateIllegal => ⟨.pstate2, [3]⟩
  | .lineOff => ⟨.lineMode2, [0]⟩
  | .linePulse => ⟨.lineMode2, [1]⟩
  | .lineUart => ⟨.lineMode2, [2]⟩
  | .lineMode3 => ⟨.lineMode2, [3]⟩
  | .resOk => ⟨.result, [0]⟩
  | .resErrLink => ⟨.result, [1]⟩
  | .resErrTimer => ⟨.result, [2]⟩
  | .feContinue => ⟨.frameEvent, [0]⟩
  | .feFrameReady now f => ⟨.frameEvent, 1 :: (timeBytes now ++ seqBytes f)⟩
  | .feChecksumError now r c => ⟨.frameEvent, 2 :: (timeBytes now ++ [r, c])⟩
  | .seInProgress => ⟨.sequencerEvent, [0]⟩
  | .seDone now => ⟨.sequencerEvent, 1 :: timeBytes now⟩

/-! ### A bare word of spec/opcode_table.json -/

/-- The first `n` bytes of a word, bits 7..0 first. -/
def wordBytes : Nat → Nat → List Byte
  | 0, _ => []
  | n + 1, w => BitVec.ofNat 8 w :: wordBytes n (w / 256)

/-- The first of the formats in which the bytes decode. -/
def firstFormat (bytes : List Byte) : List Format → Option Item
  | [] => none
  | f :: fs =>
    match decodeItem ⟨f, bytes⟩ with
    | .ok _ => some ⟨f, bytes⟩
    | .error _ => firstFormat bytes fs

/-- The formats tried for a bare word: one byte names an event before a micro-operation before a control byte; a longer word
is a command, a record whose kind is Data or Text, or a response; 70 bytes are a record (assumption log 2). -/
def tableFormats (nbits w : Nat) : List Format :=
  if nbits ≤ 8 then [.event4, .uop5, .payload1]
  else if nbits = 560 then [.record70]
  else if w % 256 = 1 ∨ w % 256 = 2 then [.klineCmd, .record70, .klineResp]
  else [.klineCmd, .klineResp]

/-- The item a bare word stands for: its bytes, then zeros for the operands. -/
def tableItem (nbits w : Nat) : Option Item :=
  firstFormat (wordBytes (nbits / 8) w ++ List.replicate 260 0) (tableFormats nbits w)

/-- The instruction the decoder reads from the bits of a table row. -/
def decodeTableWord (nbits w : Nat) : Option Instr :=
  match tableItem nbits w with
  | none => none
  | some it =>
    match decodeItem it with
    | .ok i => some i
    | .error _ => none

end Sys2Proof
end

