-- ==== Sys2Proof/Config.lean ====
section
/-! DEFINITION. The static configuration record of the K-Line core (00_scope.md R7, R8, R9) and the constants that the spec
leaves open. Which configurations are legal (R10) is `Machine.configLegal`. -/

namespace Sys2Proof

/-- `TX_CHUNK`: how many bytes one transmission step writes (00_scope.md R8, 42_protocol_fsm.md R183). -/
inductive TxChunk where
  /-- `ALL`: every unsent byte of the command. -/
  | all
  /-- At most this many bytes. -/
  | bytes (n : Nat)
  deriving DecidableEq, Repr

/-- The parameters of 00_scope.md R7, R8 and R9. The four peripheral draws of R9 are operands of the events. -/
structure Config where
  t1Us : Nat
  t2Us : Nat
  t3Us : Nat
  t4Us : Nat
  tickPeriodUs : Nat
  errThreshold : Nat
  queueCap : Nat
  msgPayloadMax : Nat
  msgRecordBytes : Nat
  frameCap : Nat
  txChunk : TxChunk
  rxFifoCap : Nat
  /-- No rule reads it (00_scope.md R9). -/
  baud : Nat
  deriving DecidableEq, Repr

/-- OPEN (00_scope.md R9, D28): one less than the receive FIFO's capacity, which is at least 1. No body: no proof can use its
value (assumption log 7). -/
opaque Config.rxFifoCapLessOne : Nat

/-- OPEN (00_scope.md R9, D1): the UART bit rate, which no rule reads (assumption log 7). -/
opaque Config.baudOpen : Nat

/-- OPEN (44_outbound_bridge.md R256, 20_memory.md R62): the payload of a status record whose text is longer than
`MSG_PAYLOAD_MAX`, before it is cut to `MSG_PAYLOAD_MAX` bytes; of `MSG_PAYLOAD_MAX` and the text. No body: no proof can use its
value (assumption log 8). -/
opaque Config.unstatedStatusPayload : Nat → List Byte → List Byte

/-- The defaults of 00_scope.md R7 and R8, with the open parameters of R9 left open. -/
def Config.default : Config where
  t1Us := 6000000
  t2Us := 25000
  t3Us := 500000
  t4Us := 200000
  tickPeriodUs := 1000
  errThreshold := 5
  queueCap := 3
  msgPayloadMax := 68
  msgRecordBytes := 70
  frameCap := 259
  txChunk := .all
  rxFifoCap := Config.rxFifoCapLessOne + 1
  baud := Config.baudOpen

end Sys2Proof
end

