-- ==== Sys2Proof/Machine/State.lean ====
section
/-! DEFINITION. The state of the K-Line core as plain data: the record of 10_state.md R22, the timer's own state (R46), the
configuration, the outputs (R43) and the stimulus that is still to be taken; and the reasons a step can stop. -/

namespace Sys2Proof.Machine

/-- `pstate`, 2 bits (10_state.md R23): `0b00` Init, `0b01` StartSession, `0b10` Active, `0b11` illegal. -/
inductive PState where
  | init
  | startSession
  | active
  | illegal
  deriving DecidableEq, Repr

/-- `line_mode`, 2 bits (10_state.md R36): 0 OFF, 1 PULSE, 2 UART, 3 never written. -/
inductive LineMode where
  | off
  | pulse
  | uart
  | unused3
  deriving DecidableEq, Repr

/-- `line_level`, 1 bit (10_state.md R37): 1 HIGH (idle, inactive), 0 LOW (active). -/
inductive LineLevel where
  | high
  | low
  deriving DecidableEq, Repr

/-- The result codes of the control entry points (30_encoding.md R90): 0, 1, 2. -/
inductive ResultCode where
  | ok
  | errLink
  | errTimer
  deriving DecidableEq, Repr

/-- The codec's result (30_encoding.md R92, 40_frame_codec.md R120). A return value, not state (10_state.md R41). -/
inductive FrameEvent where
  /-- Continue. -/
  | more
  /-- FrameReady with the frame's bytes, checksum excluded. -/
  | frameReady (f : List Byte)
  /-- ChecksumError with the received checksum byte and the computed one. -/
  | checksumError (received computed : Byte)
  deriving DecidableEq, Repr

/-- The sequencer's result (30_encoding.md R92, 41_fast_init.md R150). A return value, not state. -/
inductive SequencerEvent where
  | inProgress
  | done
  deriving DecidableEq, Repr

/-- The anomaly causes with the information they record (60_exceptions.md R291). -/
inductive Anomaly where
  /-- Checksum mismatch (R292). -/
  | x1 (received computed : Byte)
  /-- Receive timeout (R293). -/
  | x2 (now deadline : Time)
  /-- Illegal protocol state (R294). -/
  | x3 (p : PState)
  /-- Outbound queue full: kind and length of the dropped record (R295). -/
  | x4 (kind length : Byte)
  /-- Link setup or release failure (R296). -/
  | x5
  /-- Timer start or halt failure (R297). -/
  | x6
  /-- Receive FIFO overflow: the lost byte (R298). -/
  | x7 (b : Byte)
  /-- Frame buffer overflow: the unstored byte (R299). -/
  | x8 (b : Byte)
  deriving DecidableEq, Repr

/-- One entry of the event trace, the block's observable behaviour (00_scope.md R15). -/
inductive TraceEvent where
  /-- A byte passed to `TxWrite`. -/
  | tx (b : Byte)
  /-- A change of `line_mode`, to this value. -/
  | lineMode (m : LineMode)
  /-- A change of `line_level`, to this value. -/
  | lineLevel (l : LineLevel)
  /-- A record offered to `Enqueue`, with whether it was accepted. -/
  | offered (rec : Record) (accepted : Bool)
  /-- A result code that `start` or `stop` returned to its caller. -/
  | result (c : ResultCode)
  /-- A rise of `restart_req`. -/
  | restartRise
  /-- A `raise`. -/
  | raised (a : Anomaly)
  deriving DecidableEq, Repr

/-- The frame buffer (20_memory.md R60) as (address, byte) cells. An address with no cell holds an `unspec` value
(10_state.md R22): it has no value to read (assumption log 13). -/
abbrev Memory := List Host.Cell

/-- `seq_started` and `fastinit_start` together (10_state.md R25, R26). R50 says that `fastinit_start` holds a value whenever
`seq_started` is 1, so a latched sequence always has its start time (assumption log 12). -/
inductive Sequencer where
  /-- `seq_started = 0`, with the `fastinit_start` of the last sequence; `none` is `unspec`. -/
  | idle (lastStart : Option Time)
  /-- `seq_started = 1`, with its `fastinit_start`. -/
  | latched (start : Time)
  deriving DecidableEq, Repr

/-- The whole state. The first seventeen fields are the record of 10_state.md R22, with `seq_started` and `fastinit_start` in
one. -/
structure State where
  /-- R24: ticks come while it is set. -/
  running : Bool
  /-- R23: the protocol state. -/
  pstate : PState
  /-- R25, R26: whether the sequencer has latched a start time, and the start time. -/
  sequencer : Sequencer
  /-- R27: bytes fed since the last frame boundary. -/
  inCount : Count
  /-- R29: bytes of the command already transmitted. -/
  sentCount : Count
  /-- R30: the declared payload length. -/
  expectedLength : Byte
  /-- R32: bytes held in the frame buffer. -/
  frameLen : Count
  /-- R31: mod-256 sum of the genuine bytes. -/
  runningChecksum : Byte
  /-- R32, R60: the frame buffer. -/
  frameBuf : Memory
  /-- R33: `now` of the last frame end. -/
  lastFrameEnd : Time
  /-- R34: after this time an empty receive FIFO is a timeout. -/
  watchdogDeadline : Time
  /-- R35: consecutive checksum failures in Active, saturating. -/
  errorCounter : Byte
  /-- R38: the outbound queue, oldest record first. -/
  queue : List Record
  /-- R39: the receive FIFO, oldest byte first. -/
  rxFifo : List Byte
  /-- R36: who drives the line. -/
  lineMode : LineMode
  /-- R37: the level the sequencer drives. -/
  lineLevel : LineLevel
  /-- R40: a device restart is requested. -/
  restartReq : Bool
  /-- 43_tick_scheduler.md R221: `now` of the last START that returned OK. -/
  tickOrigin : Time
  /-- 43_tick_scheduler.md R221: ticks delivered since then. -/
  tickCount : Nat
  /-- The largest sample of `now` so far (10_state.md R45, 43_tick_scheduler.md R221; assumption log 10). -/
  lastSample : Time
  /-- The first INIT has run (70_reset_and_hazards.md R324; assumption log 9). -/
  initDone : Bool
  /-- The static configuration (00_scope.md R7). -/
  cfg : Config
  /-- The code the last control entry point returned (10_state.md R43, 60_exceptions.md R315). -/
  resultOut : ResultCode
  /-- The records handed to the Consumer, oldest first (10_state.md R43, 44_outbound_bridge.md R254). -/
  popOut : List Record
  /-- The event trace, oldest first (00_scope.md R15). -/
  trace : List TraceEvent
  /-- The agents' steps still to be taken, in order (30_encoding.md R93, R96; assumption log 1). -/
  stimulus : List Item
  deriving DecidableEq, Repr

/-- Why the machine stops with a fault. No event reaches one from a state that keeps the invariant. -/
inductive Fault where
  /-- Raised by the final byte of a frame when a frame-buffer byte below `frame_len` was never written: a read of an `unspec`
  value, which the spec says faults (10_state.md R50, 92_eei_decisions.md D27). Safe. -/
  | unspecifiedFrameByte
  /-- Raised by FEED when `in_count` or `frame_len` would leave its 16 bits; 10_state.md R49 says no step does. Safe. -/
  | counterOverflow
  /-- Raised by WATCHDOG_CHECK past its deadline in Init or the illegal state, where the `case` of 42_protocol_fsm.md R184 has
  no arm; no tick calls it there. Safe. -/
  | watchdogOutsideSession
  deriving DecidableEq, Repr

/-- Why a step is refused. -/
inductive Refusal where
  /-- Raised by `exec` for an instruction that has no meaning yet. Safe. -/
  | notModelled (mnemonic : String)
  /-- Raised by a step when no agent has chosen one. Safe. -/
  | noStimulus
  /-- Raised by a step whose next item is no instruction (30_encoding.md R95). Safe. -/
  | undecodable
  /-- Raised by a step under a configuration that 00_scope.md R10 does not allow. Safe. -/
  | illegalConfiguration
  /-- Raised by any step but INIT before the first INIT (70_reset_and_hazards.md R324). Safe. -/
  | beforeInit
  /-- Raised by the reserved event codes `0x9` to `0xF` (30_encoding.md R93). Safe. -/
  | reservedEventCode (code : Byte)
  /-- Raised by EV_TICK while `running = 0` (43_tick_scheduler.md R220, vector V-T12). Safe. -/
  | tickNotEnabled
  /-- Raised by EV_TICK with a sample before the tick's nominal time (43_tick_scheduler.md R221). Safe. -/
  | tickBeforeNominalTime
  /-- Raised by a sample of `now` below an earlier one (10_state.md R45). Safe. -/
  | timeNotMonotonic
  /-- Raised by a `now` for which `now + T3_US` does not fit 64 bits; 10_state.md R45 says no run has one. Safe. -/
  | timeOutOfRange
  /-- Raised by EV_POP on an empty queue (44_outbound_bridge.md R254). Safe. -/
  | popOnEmptyQueue
  /-- Raised by the record rows and ENQUEUE for a record the block may not build (30_encoding.md R88). Safe. -/
  | malformedRecord
  /-- Raised by LINE_MODE_3: the value 3 is never written (10_state.md R36, 30_encoding.md R91). Safe. -/
  | lineModeNeverWritten
  deriving DecidableEq, Repr

/-- The outcome of one step. -/
abbrev Outcome := Host.Outcome State Fault Refusal

/-- The state right after INIT (10_state.md R22, column "Power-on"; 70_reset_and_hazards.md R320), with the default
configuration, no earlier sample of `now`, empty outputs and no stimulus (assumption log 7, 9 to 15). -/
def State.reset : State where
  running := false
  pstate := .init
  sequencer := .idle none
  inCount := 0
  sentCount := 0
  expectedLength := 0
  frameLen := 0
  runningChecksum := 0
  frameBuf := []
  lastFrameEnd := 0
  watchdogDeadline := 0
  errorCounter := 0
  queue := []
  rxFifo := []
  lineMode := .off
  lineLevel := .high
  restartReq := false
  tickOrigin := 0
  tickCount := 0
  lastSample := 0
  initDone := true
  cfg := Config.default
  resultOut := .ok
  popOut := []
  trace := []
  stimulus := []

end Sys2Proof.Machine
end

