-- ==== Sys2Proof/Machine/Ops.lean ====
section
/-! DEFINITION. The named operations over the memories and the shared statements of the pseudocode: the frame buffer, the
counters, `raise`, the line, the receive FIFO, the transmitted stream, the records and `Enqueue`. Each update is ONE record
update, so that what it leaves alone is plain. -/

namespace Sys2Proof.Machine

/-! ### The frame buffer (20_memory.md R60) -/

/-- The byte at an address, `none` where nothing has been written. -/
def memRead (m : Memory) (a : Nat) : Option Byte :=
  match m with
  | [] => none
  | c :: cs => if c.1 = a then some c.2 else memRead cs a

/-- Store a byte at an address, keeping the addresses strictly rising. -/
def memWrite (m : Memory) (a : Nat) (b : Byte) : Memory :=
  match m with
  | [] => [(a, b)]
  | c :: cs => if a < c.1 then (a, b) :: c :: cs else if a = c.1 then (a, b) :: cs else c :: memWrite cs a b

/-- The canonical form: addresses strictly rising. Any byte is listed, since an unlisted address has no value. -/
def Memory.wf (m : Memory) : Bool :=
  match m with
  | [] => true
  | c :: cs => (cs.all fun d => decide (c.1 < d.1)) && Memory.wf cs

/-- The bytes at addresses 0 to `n - 1`, `none` if one of them has no value. -/
def memPrefix (m : Memory) : Nat → Option (List Byte)
  | 0 => some []
  | n + 1 =>
    match memPrefix m n, memRead m n with
    | some bs, some b => some (bs ++ [b])
    | _, _ => none

/-- `FrameBuf[0 : frame_len]` (40_frame_codec.md R131). -/
def frameBytes (s : State) : Option (List Byte) := memPrefix s.frameBuf s.frameLen.toNat

/-! ### Counters -/

/-- `c + 1` where it fits 16 bits (00_scope.md R11). -/
def countSucc (c : Count) : Option Count :=
  if c.toNat + 1 < 2 ^ 16 then some (c + 1) else none

/-- `min(c + 1, 255)` (42_protocol_fsm.md R175). -/
def saturatingSucc (c : Byte) : Byte := if c.toNat < 255 then c + 1 else c

/-- `now + T3_US`, the watchdog's new deadline (42_protocol_fsm.md R176). Exact while `timeFits` holds. -/
def deadlineFrom (now : Time) (s : State) : Time := BitVec.ofNat 64 (now.toNat + s.cfg.t3Us)

/-- `now + T3_US` fits 64 bits (10_state.md R45). -/
def timeFits (now : Time) (s : State) : Bool := decide (now.toNat + s.cfg.t3Us < 2 ^ 64)

/-! ### Taking an anomaly (60_exceptions.md R291, R306) -/

/-- Append to the event trace (00_scope.md R15). -/
def emit (es : List TraceEvent) (s : State) : State := { s with trace := s.trace ++ es }

/-- `raise X<n>(info)`: the anomaly is recorded and the operation goes on with its next statement. It saves no state, changes
no mode and transfers control nowhere, and there is no return from it (60_exceptions.md R306, R307). -/
def raise (a : Anomaly) (s : State) : State := emit [.raised a] s

/-! ### The time base (10_state.md R45, 60_exceptions.md R310) -/

/-- `now` is read: later samples are no smaller (assumption log 10). -/
def sampleTime (now : Time) (s : State) : State := { s with lastSample := now }

/-! ### The sequencer's latch (10_state.md R25, R26) -/

/-- `seq_started` (10_state.md R25). -/
def Sequencer.started (q : Sequencer) : Bool :=
  match q with
  | .idle _ => false
  | .latched _ => true

/-- `fastinit_start` (10_state.md R26). It has no value to read while it is `unspec` (R22, R50; vector V-R2). -/
def Sequencer.start (q : Sequencer) : Option Time :=
  match q with
  | .idle lastStart => lastStart
  | .latched start => some start

/-- `st.seq_started` (10_state.md R25). -/
abbrev State.seqStarted (s : State) : Bool := s.sequencer.started

/-- `st.fastinit_start` (10_state.md R26). -/
abbrev State.fastinitStart (s : State) : Option Time := s.sequencer.start

/-- `st.seq_started <- 0`. -/
def clearLatch (s : State) : State := { s with sequencer := .idle s.fastinitStart }

/-! ### The line (10_state.md R36, R37) -/

/-- `st.line_mode <- m`; a change is in the trace. -/
def setLineMode (m : LineMode) (s : State) : State :=
  { s with lineMode := m, trace := s.trace ++ if s.lineMode = m then [] else [.lineMode m] }

/-- `st.line_level <- l`; a change is in the trace. -/
def setLineLevel (l : LineLevel) (s : State) : State :=
  { s with lineLevel := l, trace := s.trace ++ if s.lineLevel = l then [] else [.lineLevel l] }

/-- The level the block drives on its transmit side while no byte is sent: nothing when OFF, `line_level` in PULSE, the idle
high in UART (10_state.md R36, R37). -/
def drivenLevel (s : State) : Option LineLevel :=
  match s.lineMode with
  | .off => none
  | .pulse => some s.lineLevel
  | .uart => some .high
  | .unused3 => none

/-! ### The Link Driver's byte ports (20_memory.md R64 to R66) -/

/-- What a delivered byte adds to the trace: X7 if the link is on and the FIFO is full. -/
def arrivalTrace (b : Byte) (s : State) : List TraceEvent :=
  if s.lineMode = .off then [] else if s.rxFifo.length = s.cfg.rxFifoCap then [.raised (.x7 b)] else []

/-- The receive FIFO after a delivered byte. -/
def arrivalFifo (b : Byte) (s : State) : List Byte :=
  if s.lineMode = .off then s.rxFifo
  else if s.rxFifo.length = s.cfg.rxFifoCap then s.rxFifo else s.rxFifo ++ [b]

/-- `rx_arrive(b)` (20_memory.md R64). -/
def rxArrive (b : Byte) (s : State) : State :=
  { s with rxFifo := arrivalFifo b s, trace := s.trace ++ arrivalTrace b s }

/-- The Line agent delivers bytes one after the other (20_memory.md R68). -/
def rxArriveAll : List Byte → State → State
  | [], s => s
  | b :: bs, s => rxArriveAll bs (rxArrive b s)

/-- `RxFlush()` (20_memory.md R66). -/
def flushRx (s : State) : State := { s with rxFifo := [] }

/-- `TxWrite` of each byte in order (20_memory.md R65). -/
def txBytes (bs : List Byte) (s : State) : State := emit (bs.map .tx) s

/-- The transmitted byte stream, an output (10_state.md R43). -/
def transmitted (s : State) : List Byte :=
  s.trace.filterMap fun e => match e with
    | .tx b => some b
    | _ => none

/-! ### Records and the queue (30_encoding.md R85 to R88, 44_outbound_bridge.md) -/

/-- A record the block may build: `MSG_RECORD_BYTES` bytes, kind `0x01` or `0x02`, length at most `MSG_PAYLOAD_MAX`, zero
padding (30_encoding.md R85, R88). -/
def recordWf (c : Config) (rec : Record) : Bool :=
  rec.length == c.msgRecordBytes &&
    (rec.getD 0 0 == 0x01 || rec.getD 0 0 == 0x02) &&
    decide (2 ≤ rec.length) &&
    decide ((rec.getD 1 0).toNat ≤ c.msgPayloadMax) &&
    ((rec.drop (2 + (rec.getD 1 0).toNat)).all fun b => b == 0)

/-- `[kind, len] ++ payload ++ [0x00] * (MSG_PAYLOAD_MAX - len)` (44_outbound_bridge.md R256, R257). -/
def mkRecord (c : Config) (kind : Byte) (payload : List Byte) : Record :=
  kind :: BitVec.ofNat 8 payload.length :: (payload ++ List.replicate (c.msgPayloadMax - payload.length) 0)

/-- The payload of the record that names a state: its text (44_outbound_bridge.md R256), where the record has room for it. Where
`MSG_PAYLOAD_MAX` is smaller, the rules state no payload that a record of `MSG_RECORD_BYTES` bytes can hold (20_memory.md R62,
30_encoding.md R85), and it is a free value of at most `MSG_PAYLOAD_MAX` bytes (assumption log 8). -/
def statusPayload (c : Config) (text : List Byte) : List Byte :=
  if text.length ≤ c.msgPayloadMax then text
  else (Config.unstatedStatusPayload c.msgPayloadMax text).take c.msgPayloadMax

/-- The Text record that names a state (44_outbound_bridge.md R256). -/
def statusRecord (c : Config) (st : Status) : Record := mkRecord c 0x02 (statusPayload c st.text)

/-- The Data record of a frame: its first `MSG_PAYLOAD_MAX` bytes (44_outbound_bridge.md R257). -/
def frameRecord (c : Config) (f : List Byte) : Record := mkRecord c 0x01 (f.take c.msgPayloadMax)

/-- What `transport.send` is given for a popped record: kind and payload (44_outbound_bridge.md R258). -/
def transportCall (rec : Record) : Byte × List Byte :=
  (rec.getD 0 0, (rec.drop 2).take (rec.getD 1 0).toNat)

/-- The queue is full (44_outbound_bridge.md R252). -/
def queueFull (s : State) : Bool := s.queue.length == s.cfg.queueCap

/-- What an offered record adds to the trace: the offer with whether it was accepted, then X4 if it was not
(00_scope.md R15, 44_outbound_bridge.md R252; assumption log 14). -/
def offerTrace (rec : Record) (s : State) : List TraceEvent :=
  if queueFull s then [.offered rec false, .raised (.x4 (rec.getD 0 0) (rec.getD 1 0))] else [.offered rec true]

/-- `Enqueue(rec)` (44_outbound_bridge.md R252); every caller discards its result, `!queueFull s`. -/
def offer (rec : Record) (s : State) : State :=
  { s with queue := if queueFull s then s.queue else s.queue ++ [rec], trace := s.trace ++ offerTrace rec s }

/-! ### Returning a result code (30_encoding.md R90, 60_exceptions.md R315) -/

/-- START or STOP returns a code to its caller. -/
def returnResult (c : ResultCode) (s : State) : State :=
  { s with resultOut := c, trace := s.trace ++ [.result c] }

/-! ### Outcomes -/

/-- An operation that can only go on or fault, as the outcome of a step. -/
def outcomeOf (r : Except Fault State) : Outcome :=
  match r with
  | .ok s => .next s
  | .error f => .fault f

/-! ### The configuration (00_scope.md R10) -/

/-- A legal configuration: the bounds of 00_scope.md R10 and no other. -/
def configLegal (c : Config) : Bool :=
  decide (1 ≤ c.tickPeriodUs) && decide (1 ≤ c.errThreshold) && decide (c.errThreshold ≤ 255) && (c.queueCap != 0) &&
    decide (100 ≤ c.frameCap) && (c.msgPayloadMax + 2 == c.msgRecordBytes) && decide (c.msgPayloadMax ≤ 255) &&
    (c.rxFifoCap != 0) && decide (c.t1Us < 2 ^ 62) && decide (c.t2Us < 2 ^ 62) &&
    decide (c.t3Us < 2 ^ 62) && decide (c.t4Us < 2 ^ 62)

end Sys2Proof.Machine
end

