-- ==== Sys2Proof/Machine/Operands.lean ====
section
/-! DEFINITION. The operand forms: the sample of `now`, the command and the bytes a transmission step takes from it, and the
action a transport payload selects. -/

namespace Sys2Proof.Machine

/-- The sample is below an earlier one (10_state.md R45, 43_tick_scheduler.md R221; assumption log 10). -/
def belowEarlierSample (now : Time) (s : State) : Bool := decide (now.toNat < s.lastSample.toNat)

/-- Why a sample of `now` that a deadline is computed from is not one a run can have: it is below an earlier sample, or
`now + T3_US` would leave 64 bits (10_state.md R45; assumption log 10, 16). -/
def sampleRefusal (now : Time) (s : State) : Option Refusal :=
  if belowEarlierSample now s then some .timeNotMonotonic
  else if timeFits now s then none else some .timeOutOfRange

/-- The nominal time of the next tick, `tick_origin + (tick_count + 1) * TICK_PERIOD_US` (43_tick_scheduler.md R221). -/
def nominalTime (s : State) : Nat := s.tickOrigin.toNat + (s.tickCount + 1) * s.cfg.tickPeriodUs

/-- The command of the current state (42_protocol_fsm.md R180, R182; 20_memory.md R61). -/
def commandOf (p : PState) : List Byte :=
  if p = .startSession then startSessionCommand else readSensorsCommand

/-- How many of the remaining bytes one transmission step writes (42_protocol_fsm.md R183). -/
def chunkLength (c : TxChunk) (remaining : Nat) : Nat :=
  match c with
  | .all => remaining
  | .bytes n => min n remaining

/-- What a transport payload selects (45_command_dispatch.md R270 to R274). -/
inductive PayloadAction where
  | start
  | stop
  | restart
  | ignore
  deriving DecidableEq, Repr

/-- The dispatcher's decode: a payload of exactly one byte by the table of 30_encoding.md R89, every other payload ignored. -/
def payloadAction (p : List Byte) : PayloadAction :=
  match p with
  | [b] =>
    if b = 0x01 ∨ b = 0x67 then .start
    else if b = 0x00 ∨ b = 0x73 then .stop
    else if b = 0xFF ∨ b = 0x72 then .restart
    else .ignore
  | _ => .ignore

/-- The bits of `pstate` (10_state.md R23). -/
def pstateBits (p : PState) : BitVec 2 :=
  match p with
  | .init => 0
  | .startSession => 1
  | .active => 2
  | .illegal => 3

/-- The bits of `line_mode` (10_state.md R36). -/
def lineModeBits (m : LineMode) : BitVec 2 :=
  match m with
  | .off => 0
  | .pulse => 1
  | .uart => 2
  | .unused3 => 3

/-- The bit of `line_level` (10_state.md R37). -/
def lineLevelBit (l : LineLevel) : BitVec 1 :=
  match l with
  | .low => 0
  | .high => 1

/-- The value of a result code (30_encoding.md R90). -/
def resultValue (c : ResultCode) : Nat :=
  match c with
  | .ok => 0
  | .errLink => 1
  | .errTimer => 2

end Sys2Proof.Machine
end

