-- ==== Sys2Proof/Machine/Flags.lean ====
section
/-! DEFINITION. The flags and the conditions the block computes. The KLC has no condition codes (10_state.md R41): its status
flags are `running` and `restart_req`, and its conditions are comparisons of a counter or of `now` with a parameter, all of
them exact (00_scope.md R11). -/

namespace Sys2Proof.Machine

/-- `restart_req <- 1`; a rise is in the trace (10_state.md R40, 45_command_dispatch.md R273, 00_scope.md R15). -/
def requestRestart (s : State) : State :=
  { s with restartReq := true, trace := s.trace ++ if s.restartReq then [] else [.restartRise] }

/-- `error_counter >= ERR_THRESHOLD` (42_protocol_fsm.md R174). -/
def thresholdReached (s : State) : Bool := decide (s.cfg.errThreshold ≤ s.errorCounter.toNat)

/-- `now > watchdog_deadline` (42_protocol_fsm.md R184). -/
def watchdogExpired (now : Time) (s : State) : Bool := decide (s.watchdogDeadline.toNat < now.toNat)

/-- `now - last_frame_end >= T4_US` (42_protocol_fsm.md R181; assumption log 24). -/
def quietOver (now : Time) (s : State) : Bool := decide (s.lastFrameEnd.toNat + s.cfg.t4Us ≤ now.toNat)

/-- `now - fastinit_start < w`: the elapsed time lies before the end `w` of a window (41_fast_init.md R151;
assumption log 24). -/
def elapsedBefore (now start : Time) (w : Nat) : Bool := decide (now.toNat < start.toNat + w)

end Sys2Proof.Machine
end

