-- ==== Sys2Proof/Machine/Codec.lean ====
section
/-! DEFINITION. The Frame Codec (40_frame_codec.md): FEED with the echo discriminator and the checksum validator, and
EOF_RESET. -/

namespace Sys2Proof.Machine

/-- `EOF_RESET()` (40_frame_codec.md R130). The bytes of the frame buffer keep their values. -/
def clearFrame (s : State) : State :=
  { s with inCount := 0, sentCount := 0, expectedLength := 0, frameLen := 0, runningChecksum := 0 }

/-- The first genuine byte resets the stored bytes, the sum and the length (40_frame_codec.md R124). -/
def beginFrame (s : State) : State := { s with frameLen := 0, runningChecksum := 0, expectedLength := 0 }

/-- The final byte: compare, reset, answer (40_frame_codec.md R126, R127, R131). -/
def finishFrame (b : Byte) (s : State) : Except Fault (State × FrameEvent) :=
  match frameBytes s with
  | none => .error .unspecifiedFrameByte
  | some f =>
    .ok (clearFrame s, if b = s.runningChecksum then .frameReady f else .checksumError b s.runningChecksum)

/-- A non-final genuine byte: length at `g = 4`, sum, store or X8 (40_frame_codec.md R125, R128, R129, R133). -/
def storeByte (g : Nat) (b : Byte) (s : State) : Except Fault (State × FrameEvent) :=
  let s1 : State :=
    { s with expectedLength := if g = 4 then b else s.expectedLength, runningChecksum := s.runningChecksum + b }
  if s.frameLen.toNat < s.cfg.frameCap then
    match countSucc s.frameLen with
    | none => .error .counterOverflow
    | some n => .ok ({ s1 with frameBuf := memWrite s.frameBuf s.frameLen.toNat b, frameLen := n }, .more)
  else .ok (raise (.x8 b) s1, .more)

/-- A genuine byte with genuine index `g` (40_frame_codec.md R123 to R129). -/
def feedGenuine (g : Nat) (b : Byte) (s : State) : Except Fault (State × FrameEvent) :=
  let s1 := if g = 1 then beginFrame s else s
  if g = s1.expectedLength.toNat + 5 then finishFrame b s1 else storeByte g b s1

/-- `FEED(b)` (40_frame_codec.md R120). -/
def feedByte (b : Byte) (s : State) : Except Fault (State × FrameEvent) :=
  match countSucc s.inCount with
  | none => .error .counterOverflow
  | some n =>
    if n.toNat ≤ s.sentCount.toNat then .ok ({ s with inCount := n }, .more)
    else feedGenuine (n.toNat - s.sentCount.toNat) b { s with inCount := n }

/-- FEED (40_frame_codec.md R120). Its event is returned to nobody here. -/
def execFeed (b : Byte) (s : State) : Outcome :=
  match feedByte b s with
  | .error f => .fault f
  | .ok (t, _) => .next t

/-- EOF_RESET (40_frame_codec.md R130). -/
def execEofReset (s : State) : Outcome := .next (clearFrame s)

end Sys2Proof.Machine
end

