-- ==== Sys2Proof/Machine/Control.lean ====
section
/-! DEFINITION. The control entry points: INIT (70_reset_and_hazards.md R320), START and STOP (43_tick_scheduler.md R222,
R226). -/

namespace Sys2Proof.Machine

/-- `INIT()` (70_reset_and_hazards.md R320): every field of 10_state.md R22 at its power-on value, the tick source halted. The
time base, the configuration and the outputs are not the block's to reset (60_exceptions.md R310; assumption log 10, 14). -/
def powerOn (s : State) : State :=
  let s1 := setLineLevel .high (setLineMode .off s)
  { s1 with
    running := false, tickCount := 0, pstate := .init, sequencer := .idle none,
    inCount := 0, sentCount := 0, expectedLength := 0, frameLen := 0, runningChecksum := 0, frameBuf := [],
    lastFrameEnd := 0, watchdogDeadline := 0, errorCounter := 0, queue := [], rxFifo := [], restartReq := false,
    initDone := true, resultOut := .ok }

/-- The session reset of START: link up and held idle, session fields reset (43_tick_scheduler.md R222). -/
def sessionReset (now : Time) (s : State) : State :=
  let s1 := clearLatch (clearFrame (flushRx (setLineLevel .high (setLineMode .pulse s))))
  { s1 with
    pstate := .init, errorCounter := 0, lastFrameEnd := now,
    watchdogDeadline := deadlineFrom now s }

/-- `START` with the code it returns (43_tick_scheduler.md R222 to R225). Every START samples `now` (10_state.md R42,
60_exceptions.md R310), whatever it does with it; only one that sets the deadline needs `now + T3_US`. One that returns OK from the
stopped state leaves `fastinit_start` `unspec` (10_state.md R22, column "After start"; assumption log 12). -/
def startBlock (now : Time) (linkInitOk timerStartOk : Bool) (s : State) : Except Refusal (State × ResultCode) :=
  if belowEarlierSample now s then .error .timeNotMonotonic
  else
    let s1 := sampleTime now s
    if s.running then .ok (s1, .ok)
    else if linkInitOk then
      if timeFits now s then
        let s2 := sessionReset now s1
        if timerStartOk then
          .ok ({ s2 with running := true, sequencer := .idle none, tickOrigin := now, tickCount := 0 }, .ok)
        else .ok (raise .x6 (flushRx (setLineMode .off s2)), .errTimer)
      else .error .timeOutOfRange
    else .ok (raise .x5 s1, .errLink)

/-- `STOP` with the code it returns (43_tick_scheduler.md R226 to R228). -/
def stopBlock (timerStopOk linkDeinitOk : Bool) (s : State) : State × ResultCode :=
  if s.running then
    if timerStopOk then
      let s1 := flushRx (setLineMode .off { s with running := false })
      if linkDeinitOk then (s1, .ok) else (raise .x5 s1, .errLink)
    else (raise .x6 s, .errTimer)
  else (s, .ok)

/-- EV_INIT (70_reset_and_hazards.md R320). -/
def execEvInit (s : State) : Outcome := .next (powerOn s)

/-- EV_START (43_tick_scheduler.md R222). -/
def execEvStart (now : Time) (linkInitOk timerStartOk : Bool) (s : State) : Outcome :=
  match startBlock now linkInitOk timerStartOk s with
  | .error r => .refused r
  | .ok (t, c) => .next (returnResult c t)

/-- EV_STOP (43_tick_scheduler.md R226). -/
def execEvStop (timerStopOk linkDeinitOk : Bool) (s : State) : Outcome :=
  .next (returnResult (stopBlock timerStopOk linkDeinitOk s).2 (stopBlock timerStopOk linkDeinitOk s).1)

end Sys2Proof.Machine
end

