-- ==== Sys2Proof/Machine/Dispatcher.lean ====
section
/-! DEFINITION. The command dispatcher and the connection callbacks (45_command_dispatch.md). The dispatcher discards the
result codes of the START and STOP it calls (R275), so they are not in the trace. -/

namespace Sys2Proof.Machine

/-- The start action (45_command_dispatch.md R271). -/
def dispatchStart (now : Time) (linkInitOk timerStartOk : Bool) (s : State) : Outcome :=
  match startBlock now linkInitOk timerStartOk s with
  | .error r => .refused r
  | .ok (t, _) => .next t

/-- The stop action (45_command_dispatch.md R272). -/
def dispatchStop (timerStopOk linkDeinitOk : Bool) (s : State) : Outcome :=
  .next (stopBlock timerStopOk linkDeinitOk s).1

/-- The restart action: STOP, then the request, whatever STOP returned (45_command_dispatch.md R273). -/
def dispatchRestart (timerStopOk linkDeinitOk : Bool) (s : State) : Outcome :=
  .next (requestRestart (stopBlock timerStopOk linkDeinitOk s).1)

/-- EV_PAYLOAD (45_command_dispatch.md R270 to R274). -/
def execEvPayload (p : List Byte) (now : Time) (linkInitOk timerStartOk timerStopOk linkDeinitOk : Bool) (s : State) : Outcome :=
  match payloadAction p with
  | .start => dispatchStart now linkInitOk timerStartOk s
  | .stop => dispatchStop timerStopOk linkDeinitOk s
  | .restart => dispatchRestart timerStopOk linkDeinitOk s
  | .ignore => .next s

/-- EV_CONNECTED: no effect (45_command_dispatch.md R276). -/
def execEvConnected (s : State) : Outcome := .next s

/-- EV_DISCONNECTED: no effect (45_command_dispatch.md R276). -/
def execEvDisconnected (s : State) : Outcome := .next s

/-- CTRL_01: the payload `0x01` (45_command_dispatch.md R271). -/
def execCtrl01 (now : Time) (linkInitOk timerStartOk : Bool) (s : State) : Outcome :=
  dispatchStart now linkInitOk timerStartOk s

/-- CTRL_67: the payload `0x67`, 'g' (45_command_dispatch.md R271). -/
def execCtrl67 (now : Time) (linkInitOk timerStartOk : Bool) (s : State) : Outcome :=
  dispatchStart now linkInitOk timerStartOk s

/-- CTRL_00: the payload `0x00` (45_command_dispatch.md R272). -/
def execCtrl00 (timerStopOk linkDeinitOk : Bool) (s : State) : Outcome := dispatchStop timerStopOk linkDeinitOk s

/-- CTRL_73: the payload `0x73`, 's' (45_command_dispatch.md R272). -/
def execCtrl73 (timerStopOk linkDeinitOk : Bool) (s : State) : Outcome := dispatchStop timerStopOk linkDeinitOk s

/-- CTRL_FF: the payload `0xFF` (45_command_dispatch.md R273). -/
def execCtrlFF (timerStopOk linkDeinitOk : Bool) (s : State) : Outcome := dispatchRestart timerStopOk linkDeinitOk s

/-- CTRL_72: the payload `0x72`, 'r' (45_command_dispatch.md R273). -/
def execCtrl72 (timerStopOk linkDeinitOk : Bool) (s : State) : Outcome := dispatchRestart timerStopOk linkDeinitOk s

/-- CTRL_OTHER: any other payload is ignored (45_command_dispatch.md R274). -/
def execCtrlOther (_p : List Byte) (s : State) : Outcome := .next s

end Sys2Proof.Machine
end

