-- ==== Sys2Proof/Machine/Link.lean ====
section
/-! DEFINITION. The Link Driver's byte ports (20_memory.md R64 to R66) and the K-Line frames of the table (30_encoding.md R80,
R82; assumption log 6). -/

namespace Sys2Proof.Machine

/-- EV_RX_BYTE: the Line agent delivers a byte (20_memory.md R64). -/
def execEvRxByte (b : Byte) (s : State) : Outcome := .next (rxArrive b s)

/-- TX_WRITE: a byte is appended to the transmitted stream; it never fails (20_memory.md R65). -/
def execTxWrite (b : Byte) (s : State) : Outcome := .next (txBytes [b] s)

/-- RX_FLUSH (20_memory.md R66). -/
def execRxFlush (s : State) : Outcome := .next (flushRx s)

/-- CMD_START_SESSION: the command's bytes are transmitted, byte 0 first (30_encoding.md R80, 20_memory.md R68). -/
def execCmdStartSession (s : State) : Outcome := .next (txBytes startSessionCommand s)

/-- CMD_READ_SENSORS: the command's bytes are transmitted, byte 0 first (30_encoding.md R80, 20_memory.md R68). -/
def execCmdReadSensors (s : State) : Outcome := .next (txBytes readSensorsCommand s)

/-- The bytes of a response frame, first on the wire first (30_encoding.md R82). -/
def responseBytes (h0 h1 h2 : Byte) (payload : List Byte) (checksum : Byte) : List Byte :=
  h0 :: h1 :: h2 :: BitVec.ofNat 8 payload.length :: (payload ++ [checksum])

/-- RESP_FRAME: the Line agent delivers the frame's bytes in order (30_encoding.md R82, 20_memory.md R68). Whether its checksum
is right shows when it is drained (30_encoding.md R84). -/
def execRespFrame (h0 h1 h2 : Byte) (payload : List Byte) (checksum : Byte) (s : State) : Outcome :=
  .next (rxArriveAll (responseBytes h0 h1 h2 payload checksum) s)

end Sys2Proof.Machine
end

