-- ==== Sys2Proof/Machine/Reserved.lean ====
section
/-! DEFINITION. The reserved event codes (30_encoding.md R93, R95): a model refuses an event with such a code. -/

namespace Sys2Proof.Machine

/-- Event code `0x9` (30_encoding.md R93). -/
def execEvReserved9 (_s : State) : Outcome := .refused (.reservedEventCode 0x9)

/-- Event code `0xA` (30_encoding.md R93). -/
def execEvReservedA (_s : State) : Outcome := .refused (.reservedEventCode 0xA)

/-- Event code `0xB` (30_encoding.md R93). -/
def execEvReservedB (_s : State) : Outcome := .refused (.reservedEventCode 0xB)

/-- Event code `0xC` (30_encoding.md R93). -/
def execEvReservedC (_s : State) : Outcome := .refused (.reservedEventCode 0xC)

/-- Event code `0xD` (30_encoding.md R93). -/
def execEvReservedD (_s : State) : Outcome := .refused (.reservedEventCode 0xD)

/-- Event code `0xE` (30_encoding.md R93). -/
def execEvReservedE (_s : State) : Outcome := .refused (.reservedEventCode 0xE)

/-- Event code `0xF` (30_encoding.md R93). -/
def execEvReservedF (_s : State) : Outcome := .refused (.reservedEventCode 0xF)

end Sys2Proof.Machine
end

