-- ==== Sys2Proof/Machine/Bridge.lean ====
section
/-! DEFINITION. The Outbound Bridge (44_outbound_bridge.md): ENQUEUE, the two producers, the Consumer's dequeue, and the rows of
the table that are records (30_encoding.md R85, R86, R88; assumption log 6). -/

namespace Sys2Proof.Machine

/-- `emit_status(S)` (44_outbound_bridge.md R256). -/
def sendStatus (st : Status) (s : State) : State := offer (statusRecord s.cfg st) s

/-- `emit_frame(f)` (44_outbound_bridge.md R257). -/
def sendFrame (f : List Byte) (s : State) : State := offer (frameRecord s.cfg f) s

/-- Offer a record the block may build, refuse another (30_encoding.md R88). -/
def offerChecked (rec : Record) (s : State) : Outcome :=
  if recordWf s.cfg rec then .next (offer rec s) else .refused .malformedRecord

/-- ENQUEUE (44_outbound_bridge.md R252). -/
def execEnqueue (rec : Record) (s : State) : Outcome := offerChecked rec s

/-- EMIT_STATUS (44_outbound_bridge.md R256). -/
def execEmitStatus (st : Status) (s : State) : Outcome := .next (sendStatus st s)

/-- EMIT_FRAME (44_outbound_bridge.md R257). -/
def execEmitFrame (f : List Byte) (s : State) : Outcome := .next (sendFrame f s)

/-- EV_POP: the oldest record goes to the Consumer (44_outbound_bridge.md R254). -/
def execEvPop (s : State) : Outcome :=
  match s.queue with
  | [] => .refused .popOnEmptyQueue
  | rec :: rest => .next { s with queue := rest, popOut := s.popOut ++ [rec] }

/-- REC_DATA: a Data record with this payload is offered to the queue (30_encoding.md R85). -/
def execRecData (payload : List Byte) (s : State) : Outcome := offerChecked (mkRecord s.cfg 0x01 payload) s

/-- REC_TEXT: a Text record with this payload is offered to the queue (30_encoding.md R85). -/
def execRecText (payload : List Byte) (s : State) : Outcome := offerChecked (mkRecord s.cfg 0x02 payload) s

/-- REC_OTHER_KIND: never produced; the model refuses to build one (30_encoding.md R88). -/
def execRecOtherKind (_rec : Record) (_s : State) : Outcome := .refused .malformedRecord

/-- STATUS_INIT: the record of the status "init" is offered to the queue (30_encoding.md R86). -/
def execStatusInit (s : State) : Outcome := .next (sendStatus .init s)

/-- STATUS_START_SESSION: the record of the status "start_session" is offered to the queue (30_encoding.md R86). -/
def execStatusStartSession (s : State) : Outcome := .next (sendStatus .startSession s)

/-- STATUS_ACTIVE: the record of the status "active" is offered to the queue (30_encoding.md R86). -/
def execStatusActive (s : State) : Outcome := .next (sendStatus .active s)

end Sys2Proof.Machine
end

