-- ==== Sys2Proof/Machine/FastInit.lean ====
section
/-! DEFINITION. The Fast-Init Sequencer (41_fast_init.md). -/

namespace Sys2Proof.Machine

/-- The start time of the sequence a call at `now` belongs to: the latched one, or the call's own (41_fast_init.md R150). -/
def latchedStart (now : Time) (s : State) : Time :=
  match s.sequencer with
  | .idle _ => now
  | .latched start => start

/-- The first call of a sequence latches its start, a later one finds it latched (41_fast_init.md R150). -/
def latchStart (now : Time) (s : State) : State := { s with sequencer := .latched (latchedStart now s) }

/-- `SEQ_STEP(now)` (41_fast_init.md R150): the windows, cumulative from the latched start (R151, R152). It never fails, and it
reads no `fastinit_start` that is `unspec` (10_state.md R50). -/
def sequencerStep (now : Time) (s : State) : State × SequencerEvent :=
  let start := latchedStart now s
  let s1 := latchStart now s
  if elapsedBefore now start s.cfg.t1Us then (setLineLevel .high s1, .inProgress)
  else if elapsedBefore now start (s.cfg.t1Us + s.cfg.t2Us) then (setLineLevel .low s1, .inProgress)
  else if elapsedBefore now start (s.cfg.t1Us + 2 * s.cfg.t2Us) then (setLineLevel .high s1, .inProgress)
  else (clearLatch (setLineLevel .high s1), .done)

/-- SEQ_STEP (41_fast_init.md R150). Its event is returned to nobody here. -/
def execSeqStep (now : Time) (s : State) : Outcome := .next (sequencerStep now s).1

end Sys2Proof.Machine
end

