-- ==== Sys2Proof/Machine/Fsm.lean ====
section
/-! DEFINITION. The Protocol State Machine and its timeout recovery (42_protocol_fsm.md). -/

namespace Sys2Proof.Machine

/-! ### State entry -/

/-- `ENTER_INIT(now)` (42_protocol_fsm.md R187). -/
def toInit (now : Time) (s : State) : State :=
  let s1 := clearLatch (clearFrame s)
  let s2 : State := { s1 with errorCounter := 0, lastFrameEnd := now, watchdogDeadline := deadlineFrom now s }
  let s3 := setLineLevel .high (setLineMode .pulse s2)
  sendStatus .init { s3 with pstate := .init }

/-- `ENTER_START_SESSION(now)` (42_protocol_fsm.md R188). -/
def toStartSession (now : Time) (s : State) : State :=
  let s1 := clearFrame s
  sendStatus .startSession
    { s1 with errorCounter := 0, watchdogDeadline := deadlineFrom now s, pstate := .startSession }

/-- `ENTER_ACTIVE(now)` (42_protocol_fsm.md R189). -/
def toActive (_now : Time) (s : State) : State :=
  sendStatus .active { s with errorCounter := 0, pstate := .active }

/-! ### Init -/

/-- `FASTINIT_DONE(now)` (42_protocol_fsm.md R172). -/
def fastInitDone (now : Time) (s : State) : State :=
  toStartSession now (setLineLevel .high (setLineMode .uart (flushRx s)))

/-- What an Init tick does with the sequencer's event (42_protocol_fsm.md R171). -/
def onSequencerEvent (now : Time) (ev : SequencerEvent) (s : State) : State :=
  match ev with
  | .inProgress => s
  | .done => fastInitDone now s

/-- `TICK_INIT(now)` (42_protocol_fsm.md R171). -/
def tickInInit (now : Time) (s : State) : State :=
  onSequencerEvent now (sequencerStep now s).2 (sequencerStep now s).1

/-! ### The receive drain -/

/-- What a drain does with the codec's event, in the state the drain began in (42_protocol_fsm.md R175, R177 to R179). -/
def onFrameEvent (now : Time) (ev : FrameEvent) (s : State) : State :=
  match ev with
  | .more => s
  | .frameReady f =>
    let s1 : State := { s with lastFrameEnd := now }
    if s.pstate = .startSession then toActive now s1 else sendFrame f { s1 with errorCounter := 0 }
  | .checksumError received computed =>
    let s1 : State := { raise (.x1 received computed) s with lastFrameEnd := now }
    if s.pstate = .startSession then toInit now s1 else { s1 with errorCounter := saturatingSucc s.errorCounter }

/-- `RxPop()`, the watchdog's re-arming and FEED of one byte, the rest of the FIFO being `rest` (42_protocol_fsm.md R175,
R176). -/
def drainByte (now : Time) (b : Byte) (rest : List Byte) (s : State) : Except Fault State :=
  match feedByte b { s with rxFifo := rest, watchdogDeadline := deadlineFrom now s } with
  | .error f => .error f
  | .ok (t, ev) => .ok (onFrameEvent now ev t)

/-- The loop of `RX_DRAIN` over the bytes of the FIFO; it stops after an event that changes the state
(42_protocol_fsm.md R175). -/
def drainLoop (now : Time) : List Byte → State → Except Fault State
  | [], s => .ok s
  | b :: rest, s =>
    match drainByte now b rest s with
    | .error f => .error f
    | .ok t => if t.pstate = s.pstate then drainLoop now rest t else .ok t

/-- `RX_DRAIN(now)` (42_protocol_fsm.md R175). -/
def drain (now : Time) (s : State) : Except Fault State := drainLoop now s.rxFifo s

/-! ### Transmission -/

/-- `TX_STEP(now)` (42_protocol_fsm.md R180 to R183). -/
def transmit (now : Time) (s : State) : State :=
  let cmd := commandOf s.pstate
  let sent := s.sentCount.toNat
  if cmd.length ≤ sent then s
  else if quietOver now s then
    let n := chunkLength s.cfg.txChunk (cmd.length - sent)
    { txBytes ((cmd.drop sent).take n) s with sentCount := BitVec.ofNat 16 (sent + n) }
  else s

/-! ### Threshold and watchdog -/

/-- `THRESHOLD_CHECK(now)` with what it returns (42_protocol_fsm.md R174). -/
def checkThreshold (now : Time) (s : State) : State × Bool :=
  if thresholdReached s then (toStartSession now { s with lastFrameEnd := now }, true) else (s, false)

/-- `WATCHDOG_CHECK(now)` with what it returns (42_protocol_fsm.md R184, R185). Its `case` has arms for StartSession and Active
only (assumption log 17). -/
def checkWatchdog (now : Time) (s : State) : Except Fault (State × Bool) :=
  if watchdogExpired now s then
    let s1 : State := { raise (.x2 now s.watchdogDeadline) s with lastFrameEnd := now }
    match s.pstate with
    | .startSession => .ok (toInit now s1, true)
    | .active => .ok (toStartSession now s1, true)
    | .init => .error .watchdogOutsideSession
    | .illegal => .error .watchdogOutsideSession
  else .ok (s, false)

/-! ### The tick -/

/-- The part of `TICK_SESSION` after the threshold check (42_protocol_fsm.md R173). -/
def sessionBody (now : Time) (s : State) : Except Fault State :=
  if s.rxFifo = [] then
    match checkWatchdog now s with
    | .error f => .error f
    | .ok (t, true) => .ok t
    | .ok (t, false) => .ok (transmit now t)
  else
    match drain now s with
    | .error f => .error f
    | .ok t => if t.pstate = s.pstate then .ok (transmit now t) else .ok t

/-- `TICK_SESSION(now)` (42_protocol_fsm.md R173). -/
def tickInSession (now : Time) (s : State) : Except Fault State :=
  if s.pstate = .active then
    match checkThreshold now s with
    | (t, true) => .ok t
    | (t, false) => sessionBody now t
  else sessionBody now s

/-- `TICK_ILLEGAL(now)` (42_protocol_fsm.md R186). -/
def tickInIllegal (now : Time) (s : State) : State := toInit now (raise (.x3 s.pstate) s)

/-- `TICK(now)` (42_protocol_fsm.md R170). -/
def tick (now : Time) (s : State) : Except Fault State :=
  match s.pstate with
  | .init => .ok (tickInInit now s)
  | .startSession => tickInSession now s
  | .active => tickInSession now s
  | .illegal => .ok (tickInIllegal now s)

/-- The Tick agent's sample and count (43_tick_scheduler.md R221). -/
def countTick (now : Time) (s : State) : State :=
  { s with lastSample := now, tickCount := s.tickCount + 1 }

/-! ### The meanings -/

/-- Run an operation whose rule stores `now + T3_US`; a `now` for which that sum leaves 64 bits is no sample of a run
(10_state.md R45; assumption log 16). -/
def withDeadline (now : Time) (s : State) (r : Except Fault State) : Outcome :=
  if timeFits now s then outcomeOf r else .refused .timeOutOfRange

/-- EV_TICK (42_protocol_fsm.md R170, 43_tick_scheduler.md R220, R221). -/
def execEvTick (now : Time) (s : State) : Outcome :=
  if s.running then
    if now.toNat < nominalTime s then .refused .tickBeforeNominalTime
    else
      match sampleRefusal now s with
      | some r => .refused r
      | none => outcomeOf (tick now (countTick now s))
  else .refused .tickNotEnabled

/-- TICK_INIT (42_protocol_fsm.md R171). -/
def execTickInit (now : Time) (s : State) : Outcome := withDeadline now s (.ok (tickInInit now s))

/-- TICK_SESSION (42_protocol_fsm.md R173). -/
def execTickSession (now : Time) (s : State) : Outcome := withDeadline now s (tickInSession now s)

/-- TICK_ILLEGAL (42_protocol_fsm.md R186). -/
def execTickIllegal (now : Time) (s : State) : Outcome := withDeadline now s (.ok (tickInIllegal now s))

/-- THRESHOLD_CHECK (42_protocol_fsm.md R174). What it returns goes to nobody here. -/
def execThresholdCheck (now : Time) (s : State) : Outcome := withDeadline now s (.ok (checkThreshold now s).1)

/-- RX_DRAIN (42_protocol_fsm.md R175). -/
def execRxDrain (now : Time) (s : State) : Outcome := withDeadline now s (drain now s)

/-- TX_STEP (42_protocol_fsm.md R180). -/
def execTxStep (now : Time) (s : State) : Outcome := .next (transmit now s)

/-- WATCHDOG_CHECK (42_protocol_fsm.md R184). What it returns goes to nobody here. -/
def execWatchdogCheck (now : Time) (s : State) : Outcome :=
  withDeadline now s (match checkWatchdog now s with
    | .error f => .error f
    | .ok (t, _) => .ok t)

/-- ENTER_INIT (42_protocol_fsm.md R187). -/
def execEnterInit (now : Time) (s : State) : Outcome := withDeadline now s (.ok (toInit now s))

/-- ENTER_START_SESSION (42_protocol_fsm.md R188). -/
def execEnterStartSession (now : Time) (s : State) : Outcome := withDeadline now s (.ok (toStartSession now s))

/-- ENTER_ACTIVE (42_protocol_fsm.md R189). -/
def execEnterActive (now : Time) (s : State) : Outcome := .next (toActive now s)

end Sys2Proof.Machine
end

