-- ==== Sys2Proof/Machine/Values.lean ====
section
/-! DEFINITION. The rows that encode values (10_state.md R23, R36; 30_encoding.md R90, R92). A field's value is written into the
field, a result code is returned, and an event is acted on by its consumer in the tick (assumption log 5). -/

namespace Sys2Proof.Machine

/-- `st.pstate <- p` (10_state.md R23). -/
def setPstate (p : PState) (s : State) : State := { s with pstate := p }

/-- PSTATE_INIT: `st.pstate <- 0b00` (10_state.md R23). -/
def execPstateInit (s : State) : Outcome := .next (setPstate .init s)

/-- PSTATE_START_SESSION: `st.pstate <- 0b01` (10_state.md R23). -/
def execPstateStartSession (s : State) : Outcome := .next (setPstate .startSession s)

/-- PSTATE_ACTIVE: `st.pstate <- 0b10` (10_state.md R23). -/
def execPstateActive (s : State) : Outcome := .next (setPstate .active s)

/-- PSTATE_ILLEGAL: a fault injected from outside puts `0b11` in `pstate`; the next tick recovers (42_protocol_fsm.md R186). -/
def execPstateIllegal (s : State) : Outcome := .next (setPstate .illegal s)

/-- LINE_OFF: `st.line_mode <- OFF` (10_state.md R36). -/
def execLineOff (s : State) : Outcome := .next (setLineMode .off s)

/-- LINE_PULSE: `st.line_mode <- PULSE` (10_state.md R36). -/
def execLinePulse (s : State) : Outcome := .next (setLineMode .pulse s)

/-- LINE_UART: `st.line_mode <- UART` (10_state.md R36). -/
def execLineUart (s : State) : Outcome := .next (setLineMode .uart s)

/-- LINE_MODE_3: the value 3 is never written (10_state.md R36, 30_encoding.md R91, R95). -/
def execLineMode3 (_s : State) : Outcome := .refused .lineModeNeverWritten

/-- RES_OK: a control entry point returns 0 (30_encoding.md R90). -/
def execResOk (s : State) : Outcome := .next (returnResult .ok s)

/-- RES_ERR_LINK: a control entry point returns 1 (30_encoding.md R90). -/
def execResErrLink (s : State) : Outcome := .next (returnResult .errLink s)

/-- RES_ERR_TIMER: a control entry point returns 2 (30_encoding.md R90). -/
def execResErrTimer (s : State) : Outcome := .next (returnResult .errTimer s)

/-- FE_CONTINUE: the drain goes on (42_protocol_fsm.md R175). -/
def execFeContinue (s : State) : Outcome := .next (onFrameEvent 0 .more s)

/-- FE_FRAME_READY: the drain at `now` acts on a completed frame (42_protocol_fsm.md R175, R177, R178). -/
def execFeFrameReady (now : Time) (f : List Byte) (s : State) : Outcome := .next (onFrameEvent now (.frameReady f) s)

/-- FE_CHECKSUM_ERROR: the drain at `now` acts on a checksum error (42_protocol_fsm.md R175, R179). -/
def execFeChecksumError (now : Time) (received computed : Byte) (s : State) : Outcome :=
  withDeadline now s (.ok (onFrameEvent now (.checksumError received computed) s))

/-- SE_IN_PROGRESS: the Init tick does nothing more (42_protocol_fsm.md R171). -/
def execSeInProgress (s : State) : Outcome := .next (onSequencerEvent 0 .inProgress s)

/-- SE_DONE: the Init tick at `now` ends fast-init (42_protocol_fsm.md R171, R172). -/
def execSeDone (now : Time) (s : State) : Outcome := withDeadline now s (.ok (onSequencerEvent now .done s))

end Sys2Proof.Machine
end

