-- ==== Sys2Proof/Machine/Dispatch.lean ====
section
/-! DEFINITION. The dispatch: one arm per constructor of Instr, each a direct call of its meaning. -/

namespace Sys2Proof.Machine

/-- The meaning of each row of spec/opcode_table.json. -/
def exec (i : Instr) (s : State) : Host.Outcome State Fault Refusal :=
  match i with
  | .evInit => Sys2Proof.Machine.execEvInit s
  | .evStart now linkInitOk timerStartOk => Sys2Proof.Machine.execEvStart now linkInitOk timerStartOk s
  | .evStop timerStopOk linkDeinitOk => Sys2Proof.Machine.execEvStop timerStopOk linkDeinitOk s
  | .evTick now => Sys2Proof.Machine.execEvTick now s
  | .evRxByte b => Sys2Proof.Machine.execEvRxByte b s
  | .evPop => Sys2Proof.Machine.execEvPop s
  | .evPayload p now linkInitOk timerStartOk timerStopOk linkDeinitOk => Sys2Proof.Machine.execEvPayload p now linkInitOk timerStartOk timerStopOk linkDeinitOk s
  | .evConnected => Sys2Proof.Machine.execEvConnected s
  | .evDisconnected => Sys2Proof.Machine.execEvDisconnected s
  | .evReserved9 => Sys2Proof.Machine.execEvReserved9 s
  | .evReservedA => Sys2Proof.Machine.execEvReservedA s
  | .evReservedB => Sys2Proof.Machine.execEvReservedB s
  | .evReservedC => Sys2Proof.Machine.execEvReservedC s
  | .evReservedD => Sys2Proof.Machine.execEvReservedD s
  | .evReservedE => Sys2Proof.Machine.execEvReservedE s
  | .evReservedF => Sys2Proof.Machine.execEvReservedF s
  | .feed b => Sys2Proof.Machine.execFeed b s
  | .eofReset => Sys2Proof.Machine.execEofReset s
  | .seqStep now => Sys2Proof.Machine.execSeqStep now s
  | .tickInit now => Sys2Proof.Machine.execTickInit now s
  | .tickSession now => Sys2Proof.Machine.execTickSession now s
  | .tickIllegal now => Sys2Proof.Machine.execTickIllegal now s
  | .thresholdCheck now => Sys2Proof.Machine.execThresholdCheck now s
  | .rxDrain now => Sys2Proof.Machine.execRxDrain now s
  | .txStep now => Sys2Proof.Machine.execTxStep now s
  | .watchdogCheck now => Sys2Proof.Machine.execWatchdogCheck now s
  | .enterInit now => Sys2Proof.Machine.execEnterInit now s
  | .enterStartSession now => Sys2Proof.Machine.execEnterStartSession now s
  | .enterActive now => Sys2Proof.Machine.execEnterActive now s
  | .enqueue rec => Sys2Proof.Machine.execEnqueue rec s
  | .emitStatus st => Sys2Proof.Machine.execEmitStatus st s
  | .emitFrame f => Sys2Proof.Machine.execEmitFrame f s
  | .txWrite b => Sys2Proof.Machine.execTxWrite b s
  | .rxFlush => Sys2Proof.Machine.execRxFlush s
  | .ctrl01 now linkInitOk timerStartOk => Sys2Proof.Machine.execCtrl01 now linkInitOk timerStartOk s
  | .ctrl67 now linkInitOk timerStartOk => Sys2Proof.Machine.execCtrl67 now linkInitOk timerStartOk s
  | .ctrl00 timerStopOk linkDeinitOk => Sys2Proof.Machine.execCtrl00 timerStopOk linkDeinitOk s
  | .ctrl73 timerStopOk linkDeinitOk => Sys2Proof.Machine.execCtrl73 timerStopOk linkDeinitOk s
  | .ctrlFF timerStopOk linkDeinitOk => Sys2Proof.Machine.execCtrlFF timerStopOk linkDeinitOk s
  | .ctrl72 timerStopOk linkDeinitOk => Sys2Proof.Machine.execCtrl72 timerStopOk linkDeinitOk s
  | .ctrlOther p => Sys2Proof.Machine.execCtrlOther p s
  | .cmdStartSession => Sys2Proof.Machine.execCmdStartSession s
  | .cmdReadSensors => Sys2Proof.Machine.execCmdReadSensors s
  | .respFrame h0 h1 h2 payload checksum => Sys2Proof.Machine.execRespFrame h0 h1 h2 payload checksum s
  | .recData payload => Sys2Proof.Machine.execRecData payload s
  | .recText payload => Sys2Proof.Machine.execRecText payload s
  | .recOtherKind rec => Sys2Proof.Machine.execRecOtherKind rec s
  | .statusInit => Sys2Proof.Machine.execStatusInit s
  | .statusStartSession => Sys2Proof.Machine.execStatusStartSession s
  | .statusActive => Sys2Proof.Machine.execStatusActive s
  | .pstateInit => Sys2Proof.Machine.execPstateInit s
  | .pstateStartSession => Sys2Proof.Machine.execPstateStartSession s
  | .pstateActive => Sys2Proof.Machine.execPstateActive s
  | .pstateIllegal => Sys2Proof.Machine.execPstateIllegal s
  | .lineOff => Sys2Proof.Machine.execLineOff s
  | .linePulse => Sys2Proof.Machine.execLinePulse s
  | .lineUart => Sys2Proof.Machine.execLineUart s
  | .lineMode3 => Sys2Proof.Machine.execLineMode3 s
  | .resOk => Sys2Proof.Machine.execResOk s
  | .resErrLink => Sys2Proof.Machine.execResErrLink s
  | .resErrTimer => Sys2Proof.Machine.execResErrTimer s
  | .feContinue => Sys2Proof.Machine.execFeContinue s
  | .feFrameReady now f => Sys2Proof.Machine.execFeFrameReady now f s
  | .feChecksumError now received computed => Sys2Proof.Machine.execFeChecksumError now received computed s
  | .seInProgress => Sys2Proof.Machine.execSeInProgress s
  | .seDone now => Sys2Proof.Machine.execSeDone now s

end Sys2Proof.Machine
end

