-- ==== Sys2Proof/Machine/Fetch.lean ====
section
/-! DEFINITION. What a step does before the instruction's own effect: it takes the next stimulus, decodes it, and checks the
boot order (70_reset_and_hazards.md R324). -/

namespace Sys2Proof.Machine

/-- The state with its first stimulus taken. -/
def consume (s : State) : State := { s with stimulus := s.stimulus.tail }

/-- The instruction of the next stimulus (assumption log 1). -/
def fetch (s : State) : Except Refusal Instr :=
  match s.stimulus with
  | [] => .error .noStimulus
  | it :: _ =>
    match decodeItem it with
    | .ok i => .ok i
    | .error _ => .error .undecodable

/-- The boot order: a legal configuration first, then INIT before any other event (00_scope.md R10,
70_reset_and_hazards.md R324). -/
def bootRefusal (i : Instr) (s : State) : Option Refusal :=
  if configLegal s.cfg then
    if s.initDone || i == .evInit then none else some .beforeInit
  else some .illegalConfiguration

/-- The item that a bare word of the opcode table stands for; a word that is none stays an event item, which a step refuses. -/
def wordItem (nbits w : Nat) : Item := (tableItem nbits w).getD ⟨.event4, wordBytes (nbits / 8) w⟩

/-- Put an item where the next step takes its instruction. -/
def pushItem (it : Item) (s : State) : State := { s with stimulus := it :: s.stimulus }

end Sys2Proof.Machine
end

