-- ==== Sys2Proof/Machine/Step.lean ====
section
/-! DEFINITION. One step of the machine: one agent's atomic step (00_scope.md R14, 20_memory.md R73). -/

namespace Sys2Proof.Machine

/-- Take the next stimulus and run it. -/
def step (s : State) : Outcome :=
  match fetch s with
  | .error r => .refused r
  | .ok i =>
    match bootRefusal i s with
    | some r => .refused r
    | none => exec i (consume s)

/-- The state whose next step takes the instruction of this word. -/
def State.withFetchWord (s : State) (nbits w : Nat) : State := pushItem (wordItem nbits w) s

end Sys2Proof.Machine
end

