-- ==== Sys2Proof/Safety.lean ====
section
/-! DEFINITION. What counts as an event of the block, which states are sound, and the states that the rules' own words describe,
in the terms the statements use. Nothing here is used by the machine: the updates below are written from the rules a second
time, so that a statement does not quote a meaning back at itself. -/

namespace Sys2Proof.Safety

open Sys2Proof.Machine

/-- The instruction is one of the nine external events, the steps an agent can take (30_encoding.md R93, R94). -/
def isEvent (i : Instr) : Bool :=
  match i with
  | .evInit | .evStart _ _ _ | .evStop _ _ | .evTick _ | .evRxByte _ | .evPop
  | .evPayload _ _ _ _ _ _ | .evConnected | .evDisconnected => true
  | .evReserved9 | .evReservedA | .evReservedB | .evReservedC | .evReservedD | .evReservedE | .evReservedF => false
  | .feed _ | .eofReset | .seqStep _ | .tickInit _ | .tickSession _ | .tickIllegal _ | .thresholdCheck _ | .rxDrain _
  | .txStep _ | .watchdogCheck _ | .enterInit _ | .enterStartSession _ | .enterActive _ | .enqueue _ | .emitStatus _
  | .emitFrame _ | .txWrite _ | .rxFlush => false
  | .ctrl01 _ _ _ | .ctrl67 _ _ _ | .ctrl00 _ _ | .ctrl73 _ _ | .ctrlFF _ _ | .ctrl72 _ _ | .ctrlOther _ => false
  | .cmdStartSession | .cmdReadSensors | .respFrame _ _ _ _ _ => false
  | .recData _ | .recText _ | .recOtherKind _ | .statusInit | .statusStartSession | .statusActive => false
  | .pstateInit | .pstateStartSession | .pstateActive | .pstateIllegal => false
  | .lineOff | .linePulse | .lineUart | .lineMode3 | .resOk | .resErrLink | .resErrTimer => false
  | .feContinue | .feFrameReady _ _ | .feChecksumError _ _ _ | .seInProgress | .seDone _ => false

/-- The next step, if there is one, takes an external event. -/
def nextIsEvent (s : State) : Bool :=
  match fetch s with
  | .ok i => isEvent i
  | .error _ => false

/-- The outcome is no fault. -/
def noFault (o : Outcome) : Bool :=
  match o with
  | .fault _ => false
  | _ => true

/-! ### Configurations -/

/-- The bounds of 00_scope.md R10. -/
structure LegalConfig (c : Config) : Prop where
  tickPeriod : 1 ≤ c.tickPeriodUs
  threshold : 1 ≤ c.errThreshold
  thresholdFits : c.errThreshold ≤ 255
  queueRoom : 1 ≤ c.queueCap
  frameRoom : 100 ≤ c.frameCap
  payloadFits : c.msgPayloadMax + 2 = c.msgRecordBytes
  lengthFits : c.msgPayloadMax ≤ 255
  fifoRoom : 1 ≤ c.rxFifoCap
  t1Fits : c.t1Us < 2 ^ 62
  t2Fits : c.t2Us < 2 ^ 62
  t3Fits : c.t3Us < 2 ^ 62
  t4Fits : c.t4Us < 2 ^ 62

/-! ### Sound states -/

/-- What every step keeps: the bounds of 10_state.md R49 (the third is R49's, made inductive by the declared length), the
capacities of R22, R32, R38, R39, the frame buffer's canonical form with every byte below `frame_len` written (R50), records
as 20_memory.md R62 and 30_encoding.md R85 and R88 say, and no `line_mode` 3 (R36). That the sequencer has a start time wherever
it has latched (R26, R50) holds of every state. -/
structure Sound (s : State) : Prop where
  bufferSorted : Memory.wf s.frameBuf = true
  bufferInside : ∀ c ∈ s.frameBuf, c.1 < s.cfg.frameCap
  bufferWritten : ∀ a, a < s.frameLen.toNat → (memRead s.frameBuf a).isSome = true
  frameFits : s.frameLen.toNat ≤ s.cfg.frameCap
  frameCounted : s.frameLen.toNat ≤ s.inCount.toNat
  sentBound : s.sentCount.toNat ≤ 7
  countBound : s.inCount.toNat ≤ s.sentCount.toNat + s.expectedLength.toNat + 4
  queueBound : s.queue.length ≤ s.cfg.queueCap
  queueRecords : ∀ r ∈ s.queue, recordWf s.cfg r = true
  fifoBound : s.rxFifo.length ≤ s.cfg.rxFifoCap
  modeWritten : s.lineMode ≠ .unused3

/-- What every external event keeps beside `Sound`: no illegal `pstate` (10_state.md R23), counters 0 in Init (R49), an empty
FIFO while the line is off (R51), the line mode that goes with the protocol state while running (R36), no errors counted
outside Active (R35), and no timestamp past the last sample (R33, R34, R45; 42_protocol_fsm.md R181). -/
structure InSession (s : State) : Prop where
  legalState : s.pstate ≠ .illegal
  initSent : s.pstate = .init → s.sentCount = 0
  initCount : s.pstate = .init → s.inCount = 0
  offEmpty : s.lineMode = .off → s.rxFifo = []
  initPulse : s.running = true → s.pstate = .init → s.lineMode = .pulse
  sessionUart : s.running = true → s.pstate ≠ .init → s.lineMode = .uart
  errorsInActive : s.pstate ≠ .active → s.errorCounter = 0
  frameEndPast : s.lastFrameEnd.toNat ≤ s.lastSample.toNat
  deadlineNear : s.watchdogDeadline.toNat ≤ s.lastSample.toNat + s.cfg.t3Us
  latchPast : (s.sequencer.start.getD 0).toNat ≤ s.lastSample.toNat
  originPast : s.tickOrigin.toNat ≤ s.lastSample.toNat

/-! ### The rules' updates, written again -/

/-- The trace entry of a change of `line_mode` (00_scope.md R15). -/
def modeChange (m : LineMode) (s : State) : List TraceEvent := if s.lineMode = m then [] else [.lineMode m]

/-- The trace entry of a change of `line_level` (00_scope.md R15). -/
def levelChange (l : LineLevel) (s : State) : List TraceEvent := if s.lineLevel = l then [] else [.lineLevel l]

/-- The state after `Enqueue(rec)` (44_outbound_bridge.md R252). -/
def afterEnqueue (rec : Record) (s : State) : State :=
  if s.queue.length = s.cfg.queueCap then
    { s with trace := s.trace ++ [.offered rec false, .raised (.x4 (rec.getD 0 0) (rec.getD 1 0))] }
  else { s with queue := s.queue ++ [rec], trace := s.trace ++ [.offered rec true] }

/-- `[kind, len] ++ payload ++ [0x00] * (MSG_PAYLOAD_MAX - len)` (30_encoding.md R85, 44_outbound_bridge.md R256, R257). -/
def recordOf (c : Config) (kind : Byte) (payload : List Byte) : Record :=
  [kind, BitVec.ofNat 8 payload.length] ++ payload ++ List.replicate (c.msgPayloadMax - payload.length) 0

/-- The Text record that carries a status text (44_outbound_bridge.md R256); where `MSG_PAYLOAD_MAX` is below the text's length, its
payload is a free value of at most `MSG_PAYLOAD_MAX` bytes (assumption log 8). -/
def textRecord (c : Config) (text : List Byte) : Record :=
  recordOf c 0x02
    (if text.length ≤ c.msgPayloadMax then text
    else (Config.unstatedStatusPayload c.msgPayloadMax text).take c.msgPayloadMax)

/-- "init" (30_encoding.md R86). -/
def initText : List Byte := [0x69, 0x6E, 0x69, 0x74]

/-- "start_session" (30_encoding.md R86). -/
def startSessionText : List Byte := [0x73, 0x74, 0x61, 0x72, 0x74, 0x5F, 0x73, 0x65, 0x73, 0x73, 0x69, 0x6F, 0x6E]

/-- "active" (30_encoding.md R86). -/
def activeText : List Byte := [0x61, 0x63, 0x74, 0x69, 0x76, 0x65]

/-- The state after ENTER_INIT (42_protocol_fsm.md R187). -/
def enteredInit (now : Time) (s : State) : State :=
  afterEnqueue (textRecord s.cfg initText)
    { s with
      inCount := 0, sentCount := 0, expectedLength := 0, frameLen := 0, runningChecksum := 0, errorCounter := 0,
      lastFrameEnd := now, watchdogDeadline := BitVec.ofNat 64 (now.toNat + s.cfg.t3Us), sequencer := .idle s.fastinitStart,
      lineMode := .pulse, lineLevel := .high, pstate := .init,
      trace := s.trace ++ modeChange .pulse s ++ levelChange .high s }

/-- The state after ENTER_START_SESSION (42_protocol_fsm.md R188). -/
def enteredStartSession (now : Time) (s : State) : State :=
  afterEnqueue (textRecord s.cfg startSessionText)
    { s with
      inCount := 0, sentCount := 0, expectedLength := 0, frameLen := 0, runningChecksum := 0, errorCounter := 0,
      watchdogDeadline := BitVec.ofNat 64 (now.toNat + s.cfg.t3Us), pstate := .startSession }

/-- The state after ENTER_ACTIVE (42_protocol_fsm.md R189). -/
def enteredActive (s : State) : State :=
  afterEnqueue (textRecord s.cfg activeText) { s with errorCounter := 0, pstate := .active }

/-- The state after the end of fast-init (42_protocol_fsm.md R172). -/
def endedFastInit (now : Time) (s : State) : State :=
  enteredStartSession now
    { s with
      rxFifo := [], lineMode := .uart, lineLevel := .high,
      trace := s.trace ++ modeChange .uart s ++ levelChange .high s }

/-- `now` has been read (60_exceptions.md R310): no later sample is smaller (10_state.md R45). -/
def sampled (now : Time) (s : State) : State := { s with lastSample := now }

/-- The session fields a START resets (43_tick_scheduler.md R222), the line still up. -/
def resetSession (now : Time) (s : State) : State :=
  { s with
    lineMode := .pulse, lineLevel := .high, rxFifo := [], pstate := .init, sequencer := .idle s.fastinitStart, inCount := 0,
    sentCount := 0, expectedLength := 0, frameLen := 0, runningChecksum := 0, errorCounter := 0, lastFrameEnd := now,
    watchdogDeadline := BitVec.ofNat 64 (now.toNat + s.cfg.t3Us), lastSample := now,
    trace := s.trace ++ modeChange .pulse s ++ levelChange .high s }

/-- The state after a START that returns OK from the stopped state (43_tick_scheduler.md R222, R223); `fastinit_start` is `unspec`
from then on (10_state.md R22; assumption log 12). -/
def started (now : Time) (s : State) : State :=
  { resetSession now s with running := true, sequencer := .idle none, tickOrigin := now, tickCount := 0 }

/-- The state after a START whose timer fails (43_tick_scheduler.md R222, R225): the link is up and released again. -/
def startTimerFailed (now : Time) (s : State) : State :=
  { resetSession now s with
    lineMode := .off, trace := (resetSession now s).trace ++ [.lineMode .off, .raised .x6] }

/-- The state after a STOP that halts the timer (43_tick_scheduler.md R226). -/
def stopped (s : State) : State :=
  { s with running := false, lineMode := .off, rxFifo := [], trace := s.trace ++ modeChange .off s }

/-- An anomaly is recorded (60_exceptions.md R291). -/
def recorded (a : Anomaly) (s : State) : State := { s with trace := s.trace ++ [.raised a] }

/-- A result code is returned to the caller (30_encoding.md R90, 00_scope.md R15). -/
def returned (c : ResultCode) (s : State) : State := { s with resultOut := c, trace := s.trace ++ [.result c] }

/-- The restart request is set (45_command_dispatch.md R273). -/
def restartRequested (s : State) : State :=
  { s with restartReq := true, trace := s.trace ++ if s.restartReq then [] else [.restartRise] }

/-- The sequencer's start time for a call at `now`, latched by the first call (41_fast_init.md R150). -/
def sequenceStart (now : Time) (s : State) : Time :=
  match s.sequencer with
  | .latched start => start
  | .idle _ => now

/-- The state after a SEQ_STEP call that stays in progress at this level (41_fast_init.md R150). -/
def sequencing (now : Time) (l : LineLevel) (s : State) : State :=
  { s with
    sequencer := .latched (sequenceStart now s), lineLevel := l,
    trace := s.trace ++ levelChange l s }

/-- The state after the SEQ_STEP call that returns Done (41_fast_init.md R150). -/
def sequenceDone (now : Time) (s : State) : State :=
  { sequencing now .high s with sequencer := .idle (some (sequenceStart now s)) }

/-! ### Runs of one operation -/

/-- FEED of each byte in order, with the events it returns (40_frame_codec.md R134, R135). -/
def feedList : List Byte → State → Except Fault (State × List FrameEvent)
  | [], s => .ok (s, [])
  | b :: bs, s =>
    match feedByte b s with
    | .error f => .error f
    | .ok (t, ev) =>
      match feedList bs t with
      | .error f => .error f
      | .ok (u, evs) => .ok (u, ev :: evs)

/-- SEQ_STEP at each time in order, with the events it returns (41_fast_init.md R153). -/
def sequencerRun : List Time → State → State × List SequencerEvent
  | [], s => (s, [])
  | t :: ts, s =>
    let (s1, ev) := sequencerStep t s
    let (s2, evs) := sequencerRun ts s1
    (s2, ev :: evs)

/-- The mod-256 sum of bytes (40_frame_codec.md R128). -/
def sum256 (bs : List Byte) : Byte := bs.foldl (fun a b => a + b) 0

/-- The trace entry is a status record offered to the queue (42_protocol_fsm.md R191). -/
def isStatusOffer (e : TraceEvent) : Bool :=
  match e with
  | .offered rec _ => rec.getD 0 0 == 0x02
  | _ => false

/-- The trace entry is a record offered to the queue. -/
def isOffer (e : TraceEvent) : Bool :=
  match e with
  | .offered _ _ => true
  | _ => false

/-- The trace entry is a transmitted byte. -/
def isTransmission (e : TraceEvent) : Bool :=
  match e with
  | .tx _ => true
  | _ => false

end Sys2Proof.Safety
end

