-- ==== Sys2Proof/Certificates/Slice0/Obligations.lean ====
section
/-! DEFINITION. The statements for the provers, from the numbered rules of spec/, file by file. The states that the rules
describe are written in Sys2Proof/Safety.lean; the frame of each statement is the record update it gives: whatever field the
update does not name is unchanged, the frame buffer among them. -/

open Sys2Proof Sys2Proof.Machine Sys2Proof.Safety

/-! ### The step and the encodings -/

/-- The model's step (log 1, log 9): when the next stimulus decodes to an instruction, the configuration is legal and INIT has run
(or is the instruction), the step is `exec` of that instruction at the state with the stimulus taken, and nothing else. -/
def Obligations.StepRunsTheFetchedInstruction : Prop :=
  ∀ (s : State) (it : Item) (rest : List Item) (i : Instr),
    s.stimulus = it :: rest → decodeItem it = .ok i → LegalConfig s.cfg → (s.initDone = true ∨ i = .evInit) →
    step s = exec i { s with stimulus := rest }

/-- 00_scope.md R10 and 70_reset_and_hazards.md R324: an instruction under a configuration outside the bounds of R10 is refused,
and before the first INIT so is every instruction but INIT.
That State marks the first INIT with a field, `initDone`, is the model's choice (log 9). -/
def Obligations.BootOrderIsEnforced : Prop :=
  ∀ (s : State) (it : Item) (rest : List Item) (i : Instr),
    s.stimulus = it :: rest → decodeItem it = .ok i →
    (¬LegalConfig s.cfg → step s = .refused .illegalConfiguration) ∧
    (LegalConfig s.cfg → s.initDone = false → i ≠ .evInit → step s = .refused .beforeInit)

/-- The codes of 30_encoding.md R80, R82, R85, R86, R89, R90, R92, R93, R94 and 10_state.md R23, R36, and a payload that is none of
the command bytes (45_command_dispatch.md R274), on a few words, one or more of each format (operand bytes as log 3 lays them
out). -/
def Obligations.SampleWordsDecode : Prop :=
  decodeItem ⟨.event4, [0x0]⟩ = .ok .evInit ∧
  decodeItem ⟨.event4, [0x1, 0xE8, 0x03, 0, 0, 0, 0, 0, 0, 0, 1]⟩ = .ok (.evStart 1000 true false) ∧
  decodeItem ⟨.event4, [0x4, 0x81]⟩ = .ok (.evRxByte 0x81) ∧
  decodeItem ⟨.event4, [0xF]⟩ = .ok .evReservedF ∧
  decodeItem ⟨.uop5, [0x00, 0x83]⟩ = .ok (.feed 0x83) ∧
  decodeItem ⟨.uop5, [0x11]⟩ = .ok .rxFlush ∧
  decodeItem ⟨.payload1, [0x72, 0, 0]⟩ = .ok (.ctrl72 true true) ∧
  decodeItem ⟨.payload, [1, 0x47, 0]⟩ = .ok (.ctrlOther [0x47]) ∧
  decodeItem ⟨.klineCmd, [0x81, 0x12, 0xF1, 0x81, 0x05]⟩ = .ok .cmdStartSession ∧
  decodeItem ⟨.klineResp, [0x80, 0xF1, 0x12, 0x02, 0x61, 0x08, 0xEE]⟩ = .ok (.respFrame 0x80 0xF1 0x12 [0x61, 0x08] 0xEE) ∧
  decodeItem ⟨.record70, [0x02, 0x04, 0x69, 0x6E, 0x69, 0x74] ++ List.replicate 64 0⟩ = .ok .statusInit ∧
  decodeItem ⟨.record70, [0x01, 0x01, 0xAA] ++ List.replicate 67 0⟩ = .ok (.recData [0xAA]) ∧
  decodeItem ⟨.pstate2, [3]⟩ = .ok .pstateIllegal ∧
  decodeItem ⟨.lineMode2, [2]⟩ = .ok .lineUart ∧
  decodeItem ⟨.result, [2]⟩ = .ok .resErrTimer ∧
  decodeItem ⟨.frameEvent, [0]⟩ = .ok .feContinue ∧
  decodeItem ⟨.sequencerEvent, [0]⟩ = .ok .seInProgress

/-- Decoding an encoded well-formed instruction gives it back, for every row and every operand the encoding admits.
The format tag and the byte layout of the operands are the model's choice (log 2, 3). -/
def Obligations.DecodeInvertsEncode : Prop :=
  ∀ i : Instr, i.wf = true → decodeItem (encode i) = .ok i

/-- Whatever bytes an item holds, an instruction read from them is well formed. -/
def Obligations.DecodedInstructionsAreWellFormed : Prop :=
  ∀ (it : Item) (i : Instr), decodeItem it = .ok i → i.wf = true

/-! ### Reset and what the whole machine keeps -/

/-- 10_state.md R22, column "Power-on" (and 43_tick_scheduler.md R221's tick count): the state after reset. A field whose value
is `unspec` has none to read. -/
def Obligations.ResetHoldsThePowerOnValues : Prop :=
  State.reset.running = false ∧ State.reset.pstate = .init ∧ State.reset.seqStarted = false ∧
  State.reset.fastinitStart = none ∧ State.reset.inCount = 0 ∧ State.reset.sentCount = 0 ∧
  State.reset.expectedLength = 0 ∧ State.reset.frameLen = 0 ∧ State.reset.runningChecksum = 0 ∧
  (∀ a, memRead State.reset.frameBuf a = none) ∧ State.reset.lastFrameEnd = 0 ∧ State.reset.watchdogDeadline = 0 ∧
  State.reset.errorCounter = 0 ∧ State.reset.queue = [] ∧ State.reset.rxFifo = [] ∧ State.reset.lineMode = .off ∧
  State.reset.lineLevel = .high ∧ State.reset.restartReq = false ∧ State.reset.tickCount = 0

/-- The invariants `Sound` and `InSession` hold right after reset.
Their clauses on the last sample of `now` and on `tick_origin` (`frameEndPast`, `deadlineNear`, `latchPast`, `originPast`) rest on
the 0 that the model chose for `lastSample` (log 10) and for `tickOrigin` (log 11) at reset: the model's choice. -/
def Obligations.ResetIsSoundAndInSession : Prop :=
  Sound State.reset ∧ InSession State.reset

/-- Every step, of any row, keeps `Sound` (10_state.md R49, R50; 20_memory.md R62; 30_encoding.md R88).
The payload of a status record whose text is longer than `MSG_PAYLOAD_MAX` is a free value (log 8). -/
def Obligations.StepKeepsSound : Prop :=
  ∀ s t : State, Sound s → step s = .next t → Sound t

/-- Every step of an agent keeps `InSession` too (10_state.md R23, R35, R49, R51; 42_protocol_fsm.md R181).
That State holds the last sample of `now` is the model's choice (log 10). -/
def Obligations.EventStepKeepsInSession : Prop :=
  ∀ s t : State, Sound s → InSession s → nextIsEvent s = true → step s = .next t → InSession t

/-- No step of an agent faults from a sound state: no rule reads an `unspec` value (10_state.md R50) and no counter leaves its
width (R49).
That a read of an `unspec` byte of the frame buffer faults is R50's; how State holds `unspec` (log 12, 13) and the other faults
(log 17, 19) are the model's. -/
def Obligations.EventStepNeverFaults : Prop :=
  ∀ s : State, Sound s → nextIsEvent s = true → noFault (step s) = true

/-- 00_scope.md R7: the configuration never changes, whatever the instruction.
That the configuration is a field of State is the model's choice (log 7). -/
def Obligations.ConfigurationNeverChanges : Prop :=
  ∀ (i : Instr) (s t : State), exec i s = .next t → t.cfg = s.cfg

/-- 44_outbound_bridge.md R255, R259: whatever the instruction, records leave the queue only from its head by POP, or all at once
by INIT; otherwise records are only added behind those waiting. -/
def Obligations.OnlyPopAndInitRemoveRecords : Prop :=
  ∀ (i : Instr) (s t : State), exec i s = .next t →
    (i = .evInit ∧ t.queue = []) ∨
    (i = .evPop ∧ ∃ r, s.queue = r :: t.queue ∧ t.popOut = s.popOut ++ [r]) ∨
    ((∃ added, t.queue = s.queue ++ added) ∧ t.popOut = s.popOut)

/-- 10_state.md R51: while stopped, an event other than INIT and one that calls START changes no block field but the queue, the
FIFO and the restart request (`popOut`, `resultOut` and `trace` are outputs, no fields of R22); and over every event the FIFO
stays empty while the line is off. -/
def Obligations.StoppedBlockKeepsItsFields : Prop :=
  ∀ (i : Instr) (s t : State), isEvent i = true → exec i s = .next t →
    (s.running = false → i ≠ .evInit → (∀ now l d, i ≠ .evStart now l d) →
      (∀ p now a b c d, i = .evPayload p now a b c d → p ≠ [0x01] ∧ p ≠ [0x67]) →
      t = { s with
            queue := t.queue, rxFifo := t.rxFifo, restartReq := t.restartReq, popOut := t.popOut,
            resultOut := t.resultOut, trace := t.trace }) ∧
    ((s.lineMode = .off → s.rxFifo = []) → t.lineMode = .off → t.rxFifo = [])

/-- 10_state.md R23, R24, R48: which events can write `running`, `restart_req` and `pstate`. -/
def Obligations.OnlyControlEventsWriteTheFlags : Prop :=
  ∀ (i : Instr) (s t : State), isEvent i = true → exec i s = .next t →
    (t.running ≠ s.running → i = .evInit ∨ (∃ now l d, i = .evStart now l d) ∨ (∃ d l, i = .evStop d l) ∨
      (∃ p now a b c d, i = .evPayload p now a b c d)) ∧
    (t.restartReq ≠ s.restartReq → i = .evInit ∨ (∃ p now a b c d, i = .evPayload p now a b c d)) ∧
    (t.pstate ≠ s.pstate → i = .evInit ∨ (∃ now l d, i = .evStart now l d) ∨ (∃ now, i = .evTick now) ∨
      (∃ p now a b c d, i = .evPayload p now a b c d))

/-! ### INIT, START, STOP -/

/-- 70_reset_and_hazards.md R320 and 10_state.md R22, column "Power-on": INIT in any state.
The model's choice are the clauses that the last sample of `now` (log 10), `tick_origin` (log 11) and the consumer's output (log 15)
stay as they were, that the trace is kept and grows by the changes of the line (log 14), and that the result output becomes OK
(log 15). -/
def Obligations.InitSetsThePowerOnState : Prop :=
  ∀ s : State, exec .evInit s = .next
    { s with
      running := false, tickCount := 0, pstate := .init, sequencer := .idle none,
      inCount := 0, sentCount := 0, expectedLength := 0, frameLen := 0, runningChecksum := 0,
      frameBuf := [], lastFrameEnd := 0, watchdogDeadline := 0, errorCounter := 0, queue := [], rxFifo := [],
      lineMode := .off, lineLevel := .high, restartReq := false, initDone := true, resultOut := .ok,
      trace := s.trace ++ modeChange .off s ++ levelChange .high s }

/-- 43_tick_scheduler.md R222, R223: a START from the stopped state with both draws ok, at a sample a run can have; and the first
tick after it runs TICK_INIT with the sequencer not latched.
The field that holds the last sample, which the START and the tick set to their `now`, is the model's choice (log 10); how State
holds a `fastinit_start` that is `unspec` is log 12's. -/
def Obligations.StartResetsTheSession : Prop :=
  ∀ (s : State) (now : Time), s.running = false → s.lastSample.toNat ≤ now.toNat → now.toNat + s.cfg.t3Us < 2 ^ 64 →
    exec (.evStart now true true) s = .next (returned .ok (started now s)) ∧
    (started now s).seqStarted = false ∧
    ∀ first : Time, now.toNat + s.cfg.tickPeriodUs ≤ first.toNat → first.toNat + s.cfg.t3Us < 2 ^ 64 →
      exec (.evTick first) (returned .ok (started now s)) =
        exec (.tickInit first) { returned .ok (started now s) with lastSample := first, tickCount := 1 }

/-- 43_tick_scheduler.md R224 and 60_exceptions.md R310: a START while running, with any draws and any `now` a run can have, returns
OK and changes no field of the block; its `now` is a sample all the same.
The field that holds the last sample is the model's choice (log 10). -/
def Obligations.StartWhileRunningIsANoOp : Prop :=
  ∀ (s : State) (now : Time) (linkOk timerOk : Bool), s.running = true → s.lastSample.toNat ≤ now.toNat →
    exec (.evStart now linkOk timerOk) s = .next (returned .ok (sampled now s))

/-- 43_tick_scheduler.md R225: the two ways a START fails; its `now` is a sample either way (60_exceptions.md R310).
The field that holds the last sample is the model's choice (log 10). -/
def Obligations.StartFailuresReturnTheirCodes : Prop :=
  ∀ (s : State) (now : Time) (timerOk : Bool), s.running = false → s.lastSample.toNat ≤ now.toNat →
    exec (.evStart now false timerOk) s = .next (returned .errLink (recorded .x5 (sampled now s))) ∧
    (now.toNat + s.cfg.t3Us < 2 ^ 64 →
      exec (.evStart now true false) s = .next (returned .errTimer (startTimerFailed now s)))

/-- The model's refusals (log 10, 16): a START, in any state and with any draws, whose `now` is below an earlier sample, or one that
would set a deadline `now + T3_US` which does not fit 64 bits, is no step of a run (10_state.md R45, 60_exceptions.md R310). -/
def Obligations.StartRefusesImpossibleSamples : Prop :=
  ∀ (s : State) (now : Time) (linkOk timerOk : Bool),
    (now.toNat < s.lastSample.toNat → exec (.evStart now linkOk timerOk) s = .refused .timeNotMonotonic) ∧
    (s.running = false → s.lastSample.toNat ≤ now.toNat → 2 ^ 64 ≤ now.toNat + s.cfg.t3Us →
      exec (.evStart now true timerOk) s = .refused .timeOutOfRange)

/-- 43_tick_scheduler.md R226, R227, R228: a STOP while running halts the timer and releases the link, or says which of them
failed; while stopped, with any draws, it returns OK and changes nothing. -/
def Obligations.StopHaltsThenReleases : Prop :=
  ∀ (s : State) (timerOk linkOk : Bool),
    (s.running = true →
      exec (.evStop true true) s = .next (returned .ok (stopped s)) ∧
      exec (.evStop true false) s = .next (returned .errLink (recorded .x5 (stopped s))) ∧
      exec (.evStop false linkOk) s = .next (returned .errTimer (recorded .x6 s))) ∧
    (s.running = false → exec (.evStop timerOk linkOk) s = .next (returned .ok s))

/-- 43_tick_scheduler.md R229: after a START that returned OK, or a STOP that returned OK or ERR_LINK, a second one only returns
OK; a second START reads `now` again (60_exceptions.md R310).
The field that holds the last sample is the model's choice (log 10). -/
def Obligations.RepeatedStartAndStopAreIdempotent : Prop :=
  (∀ (s t : State) (now now' : Time) (l d l' d' : Bool), exec (.evStart now l d) s = .next t → t.resultOut = .ok →
    t.running = true ∧ t.lastSample = now ∧
      (now.toNat ≤ now'.toNat → exec (.evStart now' l' d') t = .next (returned .ok (sampled now' t)))) ∧
  (∀ (s t : State) (d l d' l' : Bool), exec (.evStop d l) s = .next t → t.resultOut = .ok ∨ t.resultOut = .errLink →
    t.running = false ∧ exec (.evStop d' l') t = .next (returned .ok t))

/-! ### The tick -/

/-- 43_tick_scheduler.md R220, R221: a tick needs a running block and a sample at or after its nominal time and every earlier
sample.
That such a tick is refused, and the field that holds the last sample, are the model's choice (log 10, 20). -/
def Obligations.TickWaitsForItsTime : Prop :=
  ∀ (s : State) (now : Time),
    (s.running = false → exec (.evTick now) s = .refused .tickNotEnabled) ∧
    (s.running = true → now.toNat < s.tickOrigin.toNat + (s.tickCount + 1) * s.cfg.tickPeriodUs →
      exec (.evTick now) s = .refused .tickBeforeNominalTime) ∧
    (s.running = true → s.tickOrigin.toNat + (s.tickCount + 1) * s.cfg.tickPeriodUs ≤ now.toNat →
      now.toNat < s.lastSample.toNat → exec (.evTick now) s = .refused .timeNotMonotonic)

/-- 42_protocol_fsm.md R170, 43_tick_scheduler.md R221: an enabled tick is counted, and runs the arm of its state.
The field that holds the last sample, which the tick sets to its `now`, is the model's choice (log 10). -/
def Obligations.TickRunsTheArmOfItsState : Prop :=
  ∀ (s : State) (now : Time), s.running = true →
    s.tickOrigin.toNat + (s.tickCount + 1) * s.cfg.tickPeriodUs ≤ now.toNat → s.lastSample.toNat ≤ now.toNat →
    now.toNat + s.cfg.t3Us < 2 ^ 64 →
    exec (.evTick now) s =
      exec
        (match s.pstate with
          | .init => .tickInit now
          | .startSession => .tickSession now
          | .active => .tickSession now
          | .illegal => .tickIllegal now)
        { s with lastSample := now, tickCount := s.tickCount + 1 }

/-- 42_protocol_fsm.md R170, 43_tick_scheduler.md R221 and 60_exceptions.md R300: every enabled tick of a sound state completes,
counts itself, and leaves alone what no tick writes. Frame-buffer bytes change only where the drained bytes can reach.
The field that holds the last sample, which the tick sets to its `now`, is the model's choice (log 10). -/
def Obligations.EnabledTickCompletes : Prop :=
  ∀ (s : State) (now : Time), Sound s → s.running = true →
    s.tickOrigin.toNat + (s.tickCount + 1) * s.cfg.tickPeriodUs ≤ now.toNat → s.lastSample.toNat ≤ now.toNat →
    now.toNat + s.cfg.t3Us < 2 ^ 64 →
    ∃ t, exec (.evTick now) s = .next t ∧ t.tickCount = s.tickCount + 1 ∧ t.lastSample = now ∧
      t.tickOrigin = s.tickOrigin ∧ t.running = true ∧ t.restartReq = s.restartReq ∧ t.initDone = s.initDone ∧
      t.cfg = s.cfg ∧ t.resultOut = s.resultOut ∧ t.popOut = s.popOut ∧ t.stimulus = s.stimulus ∧
      (∀ a, s.frameLen.toNat + s.rxFifo.length ≤ a → memRead t.frameBuf a = memRead s.frameBuf a)

/-- 42_protocol_fsm.md R192: the transition relation of a tick. -/
def Obligations.TickTransitionTable : Prop :=
  ∀ (s t : State) (now : Time), exec (.evTick now) s = .next t →
    (s.pstate = .init →
      t.pstate = if (sequenceStart now s).toNat + (s.cfg.t1Us + 2 * s.cfg.t2Us) ≤ now.toNat then .startSession else .init) ∧
    (s.pstate = .startSession → s.rxFifo = [] →
      t.pstate = if s.watchdogDeadline.toNat < now.toNat then .init else .startSession) ∧
    (s.pstate = .startSession → t.pstate ≠ .illegal) ∧
    (s.pstate = .active → s.cfg.errThreshold ≤ s.errorCounter.toNat → t.pstate = .startSession) ∧
    (s.pstate = .active → s.errorCounter.toNat < s.cfg.errThreshold → s.rxFifo = [] →
      t.pstate = if s.watchdogDeadline.toNat < now.toNat then .startSession else .active) ∧
    (s.pstate = .active → s.errorCounter.toNat < s.cfg.errThreshold → s.rxFifo ≠ [] → t.pstate = .active) ∧
    (s.pstate = .illegal → t.pstate = .init)

/-- 42_protocol_fsm.md R190, R191: a tick that makes a transition offers exactly one status record, one that makes none offers
none, and no other event offers any record (44_outbound_bridge.md R251). -/
def Obligations.TickOffersOneStatusPerTransition : Prop :=
  (∀ (s t : State) (now : Time), exec (.evTick now) s = .next t →
    ∃ added, t.trace = s.trace ++ added ∧
      added.countP isStatusOffer = if t.pstate = s.pstate then 0 else 1) ∧
  ∀ (i : Instr) (s t : State), isEvent i = true → (∀ now, i ≠ .evTick now) → exec i s = .next t →
    ∃ added, t.trace = s.trace ++ added ∧ added.countP isOffer = 0

/-- 43_tick_scheduler.md R231: a tick writes at most 7 bytes and offers at most one record per byte waiting, plus one. -/
def Obligations.TickIsBounded : Prop :=
  ∀ (s t : State) (now : Time), exec (.evTick now) s = .next t →
    ∃ added, t.trace = s.trace ++ added ∧ added.countP isTransmission ≤ 7 ∧
      added.countP isOffer ≤ s.rxFifo.length + 1 ∧ t.rxFifo.length ≤ s.rxFifo.length

/-- 70_reset_and_hazards.md R338: with `T4_US > T3_US`, after a frame end with no bytes since, an Active tick never sends the
next command. -/
def Obligations.LongQuietPeriodNeverSends : Prop :=
  ∀ (s t : State) (now : Time), s.cfg.t3Us < s.cfg.t4Us → s.pstate = .active → s.rxFifo = [] →
    s.watchdogDeadline.toNat ≤ s.lastFrameEnd.toNat + s.cfg.t3Us → exec (.evTick now) s = .next t →
    transmitted t = transmitted s

/-- 42_protocol_fsm.md R171, R172: an Init tick steps the sequencer, and ends fast-init on Done.
Which of a refused offer and its X4 comes first in the trace is the model's choice (log 14). -/
def Obligations.InitTickStepsTheSequencer : Prop :=
  ∀ (s : State) (now : Time), now.toNat + s.cfg.t3Us < 2 ^ 64 →
    (now.toNat < (sequenceStart now s).toNat + s.cfg.t1Us →
      exec (.tickInit now) s = .next (sequencing now .high s)) ∧
    ((sequenceStart now s).toNat + s.cfg.t1Us ≤ now.toNat →
      now.toNat < (sequenceStart now s).toNat + (s.cfg.t1Us + s.cfg.t2Us) →
      exec (.tickInit now) s = .next (sequencing now .low s)) ∧
    ((sequenceStart now s).toNat + (s.cfg.t1Us + s.cfg.t2Us) ≤ now.toNat →
      now.toNat < (sequenceStart now s).toNat + (s.cfg.t1Us + 2 * s.cfg.t2Us) →
      exec (.tickInit now) s = .next (sequencing now .high s)) ∧
    ((sequenceStart now s).toNat + (s.cfg.t1Us + 2 * s.cfg.t2Us) ≤ now.toNat →
      exec (.tickInit now) s = .next (endedFastInit now (sequenceDone now s)))

/-- 42_protocol_fsm.md R173: the order of a StartSession or Active tick, and that it completes. -/
def Obligations.SessionTickTakesItsSteps : Prop :=
  ∀ (s : State) (now : Time), Sound s → s.pstate = .startSession ∨ s.pstate = .active →
    now.toNat + s.cfg.t3Us < 2 ^ 64 →
    ∃ t, exec (.tickSession now) s = .next t ∧
      (s.pstate = .active → s.cfg.errThreshold ≤ s.errorCounter.toNat → exec (.thresholdCheck now) s = .next t) ∧
      (s.pstate = .startSession ∨ s.errorCounter.toNat < s.cfg.errThreshold →
        (s.rxFifo ≠ [] → ∃ u, exec (.rxDrain now) s = .next u ∧
          (u.pstate = s.pstate → exec (.txStep now) u = .next t) ∧ (u.pstate ≠ s.pstate → t = u)) ∧
        (s.rxFifo = [] → s.watchdogDeadline.toNat < now.toNat → exec (.watchdogCheck now) s = .next t) ∧
        (s.rxFifo = [] → now.toNat ≤ s.watchdogDeadline.toNat → exec (.txStep now) s = .next t))

/-- 42_protocol_fsm.md R186: the illegal state recovers by the whole Init entry, with X3.
Which of a refused offer and its X4 comes first in the trace is the model's choice (log 14). -/
def Obligations.IllegalTickRecoversToInit : Prop :=
  ∀ (s : State) (now : Time), now.toNat + s.cfg.t3Us < 2 ^ 64 →
    exec (.tickIllegal now) s = .next (enteredInit now (recorded (.x3 s.pstate) s))

/-- 42_protocol_fsm.md R174: the threshold check.
Which of a refused offer and its X4 comes first in the trace is the model's choice (log 14). -/
def Obligations.ThresholdDowngrades : Prop :=
  ∀ (s : State) (now : Time), now.toNat + s.cfg.t3Us < 2 ^ 64 →
    (s.cfg.errThreshold ≤ s.errorCounter.toNat →
      exec (.thresholdCheck now) s = .next (enteredStartSession now { s with lastFrameEnd := now })) ∧
    (s.errorCounter.toNat < s.cfg.errThreshold → exec (.thresholdCheck now) s = .next s)

/-- 42_protocol_fsm.md R184, R185: the watchdog check in StartSession and in Active.
Which of a refused offer and its X4 comes first in the trace is the model's choice (log 14). -/
def Obligations.WatchdogDowngrades : Prop :=
  ∀ (s : State) (now : Time), now.toNat + s.cfg.t3Us < 2 ^ 64 →
    (now.toNat ≤ s.watchdogDeadline.toNat → exec (.watchdogCheck now) s = .next s) ∧
    (s.watchdogDeadline.toNat < now.toNat → s.pstate = .startSession →
      exec (.watchdogCheck now) s =
        .next (enteredInit now { recorded (.x2 now s.watchdogDeadline) s with lastFrameEnd := now })) ∧
    (s.watchdogDeadline.toNat < now.toNat → s.pstate = .active →
      exec (.watchdogCheck now) s =
        .next (enteredStartSession now { recorded (.x2 now s.watchdogDeadline) s with lastFrameEnd := now }))

/-- 42_protocol_fsm.md R180 to R183: the transmission step. -/
def Obligations.TransmissionStepSendsTheCommand : Prop :=
  ∀ (s : State) (now : Time) (cmd : List Byte),
    cmd = (if s.pstate = .startSession then [0x81, 0x12, 0xF1, 0x81, 0x05]
      else [0x80, 0x12, 0xF1, 0x02, 0x21, 0x08, 0xAE]) →
    (cmd.length ≤ s.sentCount.toNat → exec (.txStep now) s = .next s) ∧
    (s.sentCount.toNat < cmd.length → now.toNat < s.lastFrameEnd.toNat + s.cfg.t4Us →
      exec (.txStep now) s = .next s) ∧
    (s.sentCount.toNat < cmd.length → s.lastFrameEnd.toNat + s.cfg.t4Us ≤ now.toNat → s.cfg.txChunk = .all →
      exec (.txStep now) s = .next
        { s with
          sentCount := BitVec.ofNat 16 cmd.length,
          trace := s.trace ++ (cmd.drop s.sentCount.toNat).map .tx }) ∧
    (∀ n, s.sentCount.toNat < cmd.length → s.lastFrameEnd.toNat + s.cfg.t4Us ≤ now.toNat → s.cfg.txChunk = .bytes n →
      exec (.txStep now) s = .next
        { s with
          sentCount := BitVec.ofNat 16 (s.sentCount.toNat + min n (cmd.length - s.sentCount.toNat)),
          trace := s.trace ++ ((cmd.drop s.sentCount.toNat).take n).map .tx })

/-- 42_protocol_fsm.md R175 to R179: what the drain does with the oldest byte, and with the event FEED returns for it.
Which of a refused offer and its X4 comes first in the trace is the model's choice (log 14). -/
def Obligations.DrainTakesTheOldestByte : Prop :=
  ∀ (s u : State) (now : Time) (b : Byte) (rest : List Byte) (ev : FrameEvent),
    s.rxFifo = b :: rest → now.toNat + s.cfg.t3Us < 2 ^ 64 →
    feedByte b { s with rxFifo := rest, watchdogDeadline := BitVec.ofNat 64 (now.toNat + s.cfg.t3Us) } = .ok (u, ev) →
    (ev = .more → exec (.rxDrain now) s = exec (.rxDrain now) u) ∧
    (∀ f, ev = .frameReady f → s.pstate = .startSession →
      exec (.rxDrain now) s = .next (enteredActive { u with lastFrameEnd := now })) ∧
    (∀ f, ev = .frameReady f → s.pstate ≠ .startSession →
      exec (.rxDrain now) s = exec (.rxDrain now)
        (afterEnqueue (recordOf s.cfg 0x01 (f.take s.cfg.msgPayloadMax)) { u with lastFrameEnd := now, errorCounter := 0 })) ∧
    (∀ r c, ev = .checksumError r c → s.pstate = .startSession →
      exec (.rxDrain now) s = .next (enteredInit now { recorded (.x1 r c) u with lastFrameEnd := now })) ∧
    (∀ r c, ev = .checksumError r c → s.pstate ≠ .startSession →
      exec (.rxDrain now) s = exec (.rxDrain now)
        { recorded (.x1 r c) u with
          lastFrameEnd := now, errorCounter := BitVec.ofNat 8 (min (s.errorCounter.toNat + 1) 255) })

/-- 42_protocol_fsm.md R175, R176: a drain of a sound state completes; an empty FIFO changes nothing, a byte re-arms the
watchdog, and without a transition every byte is taken. -/
def Obligations.DrainCompletes : Prop :=
  ∀ (s : State) (now : Time), Sound s → now.toNat + s.cfg.t3Us < 2 ^ 64 →
    ∃ t, exec (.rxDrain now) s = .next t ∧ (s.rxFifo = [] → t = s) ∧
      (s.rxFifo ≠ [] → t.watchdogDeadline = BitVec.ofNat 64 (now.toNat + s.cfg.t3Us)) ∧
      (t.pstate = s.pstate → t.rxFifo = []) ∧ (∃ taken, s.rxFifo = taken ++ t.rxFifo) ∧
      t.running = s.running ∧ t.fastinitStart = s.fastinitStart ∧
      t.restartReq = s.restartReq ∧ t.tickOrigin = s.tickOrigin ∧ t.tickCount = s.tickCount ∧
      t.lastSample = s.lastSample ∧ t.initDone = s.initDone ∧ t.cfg = s.cfg ∧ t.resultOut = s.resultOut ∧
      t.popOut = s.popOut ∧ t.stimulus = s.stimulus ∧
      (∀ a, s.frameLen.toNat + s.rxFifo.length ≤ a → memRead t.frameBuf a = memRead s.frameBuf a)

/-- 42_protocol_fsm.md R187, R188, R189: the three state entries.
Which of a refused offer and its X4 comes first in the trace is the model's choice (log 14). -/
def Obligations.StateEntriesDoAsTheirRulesSay : Prop :=
  ∀ (s : State) (now : Time),
    (now.toNat + s.cfg.t3Us < 2 ^ 64 →
      exec (.enterInit now) s = .next (enteredInit now s) ∧
      exec (.enterStartSession now) s = .next (enteredStartSession now s)) ∧
    exec (.enterActive now) s = .next (enteredActive s)

/-! ### The Frame Codec -/

/-- 40_frame_codec.md R121, R122: an echo byte only counts, and FEED returns Continue. -/
def Obligations.FeedDiscardsAnEcho : Prop :=
  ∀ (s : State) (b : Byte), s.inCount.toNat + 1 < 2 ^ 16 → s.inCount.toNat + 1 ≤ s.sentCount.toNat →
    exec (.feed b) s = .next { s with inCount := s.inCount + 1 } ∧
    feedByte b s = .ok ({ s with inCount := s.inCount + 1 }, .more)

/-- 40_frame_codec.md R123, R124, R125, R128, R129: a genuine byte that is not the final one and finds room. With `g` its index,
the first byte starts from an empty buffer; the byte is stored at `frame_len` and nowhere else. -/
def Obligations.FeedStoresAGenuineByte : Prop :=
  ∀ (s : State) (b : Byte) (g len : Nat) (expected sum : Byte),
    s.inCount.toNat + 1 < 2 ^ 16 → s.sentCount.toNat < s.inCount.toNat + 1 →
    g = s.inCount.toNat + 1 - s.sentCount.toNat →
    len = (if g = 1 then 0 else s.frameLen.toNat) → expected = (if g = 1 then 0 else s.expectedLength) →
    sum = (if g = 1 then 0 else s.runningChecksum) →
    g ≠ expected.toNat + 5 → len < s.cfg.frameCap → len + 1 < 2 ^ 16 →
    ∃ m, exec (.feed b) s = .next
        { s with
          inCount := s.inCount + 1, frameLen := BitVec.ofNat 16 (len + 1),
          expectedLength := if g = 4 then b else expected, runningChecksum := sum + b, frameBuf := m } ∧
      memRead m len = some b ∧ ∀ a, a ≠ len → memRead m a = memRead s.frameBuf a

/-- 40_frame_codec.md R133: a non-final genuine byte that finds the buffer full is summed, not stored, and raises X8. -/
def Obligations.FeedSumsAByteThatDoesNotFit : Prop :=
  ∀ (s : State) (b : Byte) (g : Nat),
    s.inCount.toNat + 1 < 2 ^ 16 → s.sentCount.toNat < s.inCount.toNat + 1 →
    g = s.inCount.toNat + 1 - s.sentCount.toNat → g ≠ 1 → g ≠ s.expectedLength.toNat + 5 →
    s.cfg.frameCap ≤ s.frameLen.toNat →
    exec (.feed b) s = .next (recorded (.x8 b)
      { s with
        inCount := s.inCount + 1, expectedLength := if g = 4 then b else s.expectedLength,
        runningChecksum := s.runningChecksum + b })

/-- 40_frame_codec.md R126, R127, R130, R131: the final byte, where every byte of the frame has been written: the counters are
reset, and the answer is FrameReady with the stored bytes or ChecksumError. -/
def Obligations.FeedAnswersAtTheFinalByte : Prop :=
  ∀ (s : State) (b : Byte) (f : List Byte),
    s.inCount.toNat + 1 < 2 ^ 16 → s.inCount.toNat + 1 = s.sentCount.toNat + s.expectedLength.toNat + 5 →
    f.length = s.frameLen.toNat → (∀ a, a < f.length → memRead s.frameBuf a = f[a]?) →
    exec (.feed b) s = .next
      { s with inCount := 0, sentCount := 0, expectedLength := 0, frameLen := 0, runningChecksum := 0 } ∧
    feedByte b s = .ok
      ({ s with inCount := 0, sentCount := 0, expectedLength := 0, frameLen := 0, runningChecksum := 0 },
        if b = s.runningChecksum then .frameReady f else .checksumError b s.runningChecksum)

/-- 40_frame_codec.md R120 and 10_state.md R49, R50: FEED completes on every byte of a sound state. -/
def Obligations.FeedCompletesOnSoundStates : Prop :=
  ∀ (s : State) (b : Byte), Sound s → ∃ t, exec (.feed b) s = .next t ∧ t.rxFifo = s.rxFifo ∧ t.queue = s.queue ∧
    t.pstate = s.pstate ∧ t.running = s.running ∧ t.lineMode = s.lineMode ∧ t.lineLevel = s.lineLevel ∧
    t.errorCounter = s.errorCounter ∧ t.lastFrameEnd = s.lastFrameEnd ∧ t.watchdogDeadline = s.watchdogDeadline

/-- 40_frame_codec.md R130: EOF_RESET. -/
def Obligations.EofResetStartsANewFrame : Prop :=
  ∀ s : State, exec .eofReset s = .next
    { s with inCount := 0, sentCount := 0, expectedLength := 0, frameLen := 0, runningChecksum := 0 }

/-- 40_frame_codec.md R134: from a frame boundary, the first `sent_count` bytes never enter the frame buffer or the checksum. -/
def Obligations.EchoBytesNeverEnterTheFrame : Prop :=
  ∀ (s : State) (echo : List Byte), s.inCount = 0 → echo.length ≤ s.sentCount.toNat →
    feedList echo s = .ok ({ s with inCount := BitVec.ofNat 16 echo.length }, List.replicate echo.length .more)

/-- 40_frame_codec.md R135: from a frame boundary, `sent_count` echo bytes, the `L + 4` bytes of a frame that declares `L`, and a
checksum byte: FrameReady with the frame exactly when the byte is the mod-256 sum, else ChecksumError, and the counters are 0.
The frame fits the buffer (R133), and the counts fit their 16 bits (10_state.md R49). -/
def Obligations.ChecksumDecidesTheFrame : Prop :=
  ∀ (s : State) (echo frame : List Byte) (c n : Byte),
    s.inCount = 0 → echo.length = s.sentCount.toNat → frame[3]? = some n → frame.length = n.toNat + 4 →
    frame.length ≤ s.cfg.frameCap → echo.length + frame.length + 1 < 2 ^ 16 →
    ∃ t, feedList (echo ++ frame ++ [c]) s = .ok (t, List.replicate (echo.length + frame.length) .more ++
        [if c = sum256 frame then .frameReady frame else .checksumError c (sum256 frame)]) ∧
      t.inCount = 0 ∧ t.sentCount = 0 ∧ t.runningChecksum = 0 ∧ t.frameLen = 0 ∧ t.expectedLength = 0

/-! ### The Fast-Init Sequencer -/

/-- 41_fast_init.md R150, R151, R152: in every state, the call in each window, and the call that returns Done.
That a latched sequence always has its start time (10_state.md R50) is how State holds the two fields (log 12). -/
def Obligations.SequencerFollowsItsWindows : Prop :=
  ∀ (s : State) (now : Time),
    (now.toNat < (sequenceStart now s).toNat + s.cfg.t1Us →
      exec (.seqStep now) s = .next (sequencing now .high s)) ∧
    ((sequenceStart now s).toNat + s.cfg.t1Us ≤ now.toNat →
      now.toNat < (sequenceStart now s).toNat + (s.cfg.t1Us + s.cfg.t2Us) →
      exec (.seqStep now) s = .next (sequencing now .low s)) ∧
    ((sequenceStart now s).toNat + (s.cfg.t1Us + s.cfg.t2Us) ≤ now.toNat →
      now.toNat < (sequenceStart now s).toNat + (s.cfg.t1Us + 2 * s.cfg.t2Us) →
      exec (.seqStep now) s = .next (sequencing now .high s)) ∧
    ((sequenceStart now s).toNat + (s.cfg.t1Us + 2 * s.cfg.t2Us) ≤ now.toNat →
      exec (.seqStep now) s = .next (sequenceDone now s))

/-- 41_fast_init.md R153: in one sequence, every call before `T1 + 2·T2` returns InProgress, the first call at or after it returns
Done, and that call clears the latch and keeps the start time. The call that begins a sequence latches its own time, and is Done at
once only where `T1 + 2·T2 = 0`. -/
def Obligations.SequencerIsDoneOncePerSequence : Prop :=
  (∀ (s : State) (start : Time) (ts : List Time) (last : Time), s.seqStarted = true → s.fastinitStart = some start →
    (∀ t ∈ ts, t.toNat < start.toNat + (s.cfg.t1Us + 2 * s.cfg.t2Us)) →
    start.toNat + (s.cfg.t1Us + 2 * s.cfg.t2Us) ≤ last.toNat →
    ∃ u, sequencerRun (ts ++ [last]) s = (u, List.replicate ts.length .inProgress ++ [.done]) ∧
      u.seqStarted = false ∧ u.fastinitStart = some start ∧ u.lineLevel = .high) ∧
  ∀ (s : State) (first : Time), s.seqStarted = false →
    ∃ u, sequencerStep first s = (u, if s.cfg.t1Us + 2 * s.cfg.t2Us = 0 then .done else .inProgress) ∧
      u.fastinitStart = some first ∧ u.seqStarted = decide (s.cfg.t1Us + 2 * s.cfg.t2Us ≠ 0)

/-! ### The Link Driver and the Outbound Bridge -/

/-- 20_memory.md R64: a delivered byte is lost on a line that is off, lost with X7 on a full FIFO, else kept. -/
def Obligations.ReceivedByteArrives : Prop :=
  ∀ (s : State) (b : Byte),
    (s.lineMode = .off → exec (.evRxByte b) s = .next s) ∧
    (s.lineMode ≠ .off → s.rxFifo.length = s.cfg.rxFifoCap → exec (.evRxByte b) s = .next (recorded (.x7 b) s)) ∧
    (s.lineMode ≠ .off → s.rxFifo.length ≠ s.cfg.rxFifoCap →
      exec (.evRxByte b) s = .next { s with rxFifo := s.rxFifo ++ [b] })

/-- 30_encoding.md R82 and 20_memory.md R64, R68: a response frame arrives byte by byte; what does not fit is lost with X7.
That the row is a delivery is the model's choice (log 6). -/
def Obligations.ResponseFrameArrives : Prop :=
  ∀ (s : State) (h0 h1 h2 c : Byte) (p bs : List Byte), bs = [h0, h1, h2, BitVec.ofNat 8 p.length] ++ p ++ [c] →
    (s.lineMode = .off → exec (.respFrame h0 h1 h2 p c) s = .next s) ∧
    (s.lineMode ≠ .off → s.rxFifo.length ≤ s.cfg.rxFifoCap →
      exec (.respFrame h0 h1 h2 p c) s = .next
        { s with
          rxFifo := s.rxFifo ++ bs.take (s.cfg.rxFifoCap - s.rxFifo.length),
          trace := s.trace ++ (bs.drop (s.cfg.rxFifoCap - s.rxFifo.length)).map fun b => .raised (.x7 b) })

/-- 20_memory.md R65, R66, 30_encoding.md R80: TX_WRITE, RX_FLUSH, and a command frame on the wire, byte 0 first.
That a command row transmits its bytes is the model's choice (log 6). -/
def Obligations.LineWritesAndFlush : Prop :=
  ∀ (s : State) (b : Byte),
    exec (.txWrite b) s = .next { s with trace := s.trace ++ [.tx b] } ∧
    exec .rxFlush s = .next { s with rxFifo := [] } ∧
    exec .cmdStartSession s = .next
      { s with trace := s.trace ++ [.tx 0x81, .tx 0x12, .tx 0xF1, .tx 0x81, .tx 0x05] } ∧
    exec .cmdReadSensors s = .next
      { s with trace := s.trace ++ [.tx 0x80, .tx 0x12, .tx 0xF1, .tx 0x02, .tx 0x21, .tx 0x08, .tx 0xAE] }

/-- 44_outbound_bridge.md R254: POP hands the oldest record to the Consumer; on an empty queue it is no step. -/
def Obligations.PopHandsOverTheOldestRecord : Prop :=
  ∀ s : State,
    (s.queue = [] → exec .evPop s = .refused .popOnEmptyQueue) ∧
    (∀ r rest, s.queue = r :: rest →
      exec .evPop s = .next { s with queue := rest, popOut := s.popOut ++ [r] })

/-- 44_outbound_bridge.md R252 and 30_encoding.md R88: ENQUEUE of a record the block may build offers it; of any other it is
refused.
Which of a refused offer and its X4 comes first in the trace is the model's choice (log 14). -/
def Obligations.EnqueueOffersWellFormedRecords : Prop :=
  ∀ (s : State) (rec : Record),
    (∀ kind payload, kind = 0x01 ∨ kind = 0x02 → payload.length ≤ s.cfg.msgPayloadMax → s.cfg.msgPayloadMax ≤ 255 →
      s.cfg.msgPayloadMax + 2 = s.cfg.msgRecordBytes → rec = recordOf s.cfg kind payload →
      exec (.enqueue rec) s = .next (afterEnqueue rec s)) ∧
    ((rec.getD 0 0 ≠ 0x01 ∧ rec.getD 0 0 ≠ 0x02) ∨ s.cfg.msgPayloadMax < (rec.getD 1 0).toNat →
      exec (.enqueue rec) s = .refused .malformedRecord)

/-- 44_outbound_bridge.md R256, R257 and 30_encoding.md R86: the records the block emits.
The payload of a status whose text is longer than `MSG_PAYLOAD_MAX` is a free value (log 8). That a STATUS row offers its record is
the model's choice (log 6), and so is which of a refused offer and its X4 comes first in the trace (log 14). -/
def Obligations.EmittedRecordsAreTheirRules : Prop :=
  ∀ (s : State) (f : List Byte),
    exec (.emitStatus .init) s = .next (afterEnqueue (textRecord s.cfg initText) s) ∧
    exec (.emitStatus .startSession) s = .next (afterEnqueue (textRecord s.cfg startSessionText) s) ∧
    exec (.emitStatus .active) s = .next (afterEnqueue (textRecord s.cfg activeText) s) ∧
    exec (.emitFrame f) s = .next (afterEnqueue (recordOf s.cfg 0x01 (f.take s.cfg.msgPayloadMax)) s) ∧
    exec .statusInit s = .next (afterEnqueue (textRecord s.cfg initText) s) ∧
    exec .statusStartSession s = .next (afterEnqueue (textRecord s.cfg startSessionText) s) ∧
    exec .statusActive s = .next (afterEnqueue (textRecord s.cfg activeText) s)

/-- 30_encoding.md R85, R88: a Data or Text record with a payload that fits is offered, one that does not is refused (the row's
effect: log 6).
Which of a refused offer and its X4 comes first in the trace is the model's choice too (log 14). -/
def Obligations.RecordRowsOfferTheirRecord : Prop :=
  ∀ (s : State) (p : List Byte), s.cfg.msgPayloadMax + 2 = s.cfg.msgRecordBytes → s.cfg.msgPayloadMax ≤ 255 →
    (p.length ≤ s.cfg.msgPayloadMax →
      exec (.recData p) s = .next (afterEnqueue (recordOf s.cfg 0x01 p) s) ∧
      exec (.recText p) s = .next (afterEnqueue (recordOf s.cfg 0x02 p) s)) ∧
    (s.cfg.msgPayloadMax < p.length →
      exec (.recData p) s = .refused .malformedRecord ∧ exec (.recText p) s = .refused .malformedRecord)

/-! ### The dispatcher -/

/-- 45_command_dispatch.md R271, R275: the start bytes call START and discard its result.
That a `now` below an earlier sample is refused, and the field that holds the last sample, are the model's choice (log 10, 20); how
State holds a `fastinit_start` that is `unspec` is log 12's. -/
def Obligations.StartBytesStart : Prop :=
  ∀ (s : State) (now : Time) (i : Instr) (l d : Bool),
    (i = .ctrl01 now l d ∨ i = .ctrl67 now l d ∨ (∃ a b, i = .evPayload [0x01] now l d a b) ∨
      (∃ a b, i = .evPayload [0x67] now l d a b)) →
    (now.toNat < s.lastSample.toNat → exec i s = .refused .timeNotMonotonic) ∧
    (s.running = true → s.lastSample.toNat ≤ now.toNat → exec i s = .next (sampled now s)) ∧
    (s.running = false → l = false → s.lastSample.toNat ≤ now.toNat → exec i s = .next (recorded .x5 (sampled now s))) ∧
    (s.running = false → l = true → s.lastSample.toNat ≤ now.toNat → now.toNat + s.cfg.t3Us < 2 ^ 64 →
      exec i s = .next (if d then started now s else startTimerFailed now s))

/-- 45_command_dispatch.md R272, R273, R275: the stop bytes call STOP; the restart bytes call STOP and set the restart request,
whatever STOP returned. -/
def Obligations.StopAndRestartBytesStop : Prop :=
  ∀ (s u : State) (now : Time) (d l : Bool),
    u = (if s.running then if d then if l then stopped s else recorded .x5 (stopped s) else recorded .x6 s else s) →
    (∀ i, (i = .ctrl00 d l ∨ i = .ctrl73 d l ∨ (∃ a b, i = .evPayload [0x00] now a b d l) ∨
        (∃ a b, i = .evPayload [0x73] now a b d l)) → exec i s = .next u) ∧
    (∀ i, (i = .ctrlFF d l ∨ i = .ctrl72 d l ∨ (∃ a b, i = .evPayload [0xFF] now a b d l) ∨
        (∃ a b, i = .evPayload [0x72] now a b d l)) → exec i s = .next (restartRequested u))

/-- 45_command_dispatch.md R274, R276: every other payload and the connection callbacks change nothing. -/
def Obligations.OtherPayloadsAndCallbacksAreIgnored : Prop :=
  ∀ (s : State) (p : List Byte) (now : Time) (a b c d : Bool),
    exec (.ctrlOther p) s = .next s ∧ exec .evConnected s = .next s ∧ exec .evDisconnected s = .next s ∧
    (p ≠ [0x01] → p ≠ [0x67] → p ≠ [0x00] → p ≠ [0x73] → p ≠ [0xFF] → p ≠ [0x72] →
      exec (.evPayload p now a b c d) s = .next s)

/-! ### The rows that encode values, and the stops -/

/-- 10_state.md R23, R36 and 30_encoding.md R90: a row that is a value of `pstate` or of `line_mode` writes it into its field, a
row that is a result code returns it (the rows' effect is the model's choice: log 5). -/
def Obligations.ValueRowsWriteOrReturnTheirValue : Prop :=
  ∀ s : State,
    exec .pstateInit s = .next { s with pstate := .init } ∧
    exec .pstateStartSession s = .next { s with pstate := .startSession } ∧
    exec .pstateActive s = .next { s with pstate := .active } ∧
    exec .pstateIllegal s = .next { s with pstate := .illegal } ∧
    exec .lineOff s = .next { s with lineMode := .off, trace := s.trace ++ modeChange .off s } ∧
    exec .linePulse s = .next { s with lineMode := .pulse, trace := s.trace ++ modeChange .pulse s } ∧
    exec .lineUart s = .next { s with lineMode := .uart, trace := s.trace ++ modeChange .uart s } ∧
    exec .resOk s = .next (returned .ok s) ∧ exec .resErrLink s = .next (returned .errLink s) ∧
    exec .resErrTimer s = .next (returned .errTimer s)

/-- 42_protocol_fsm.md R171, R172, R175, R177, R178, R179: what the drain does with each FrameEvent, and the Init tick with each
SequencerEvent (that the rows have this effect is the model's choice: log 5).
Which of a refused offer and its X4 comes first in the trace is the model's choice too (log 14). -/
def Obligations.CodecAndSequencerEventsAreActedOn : Prop :=
  ∀ (s : State) (now : Time) (f : List Byte) (r c : Byte),
    exec .feContinue s = .next s ∧
    (s.pstate = .startSession → exec (.feFrameReady now f) s = .next (enteredActive { s with lastFrameEnd := now })) ∧
    (s.pstate ≠ .startSession →
      exec (.feFrameReady now f) s = .next (afterEnqueue (recordOf s.cfg 0x01 (f.take s.cfg.msgPayloadMax))
        { s with lastFrameEnd := now, errorCounter := 0 })) ∧
    (now.toNat + s.cfg.t3Us < 2 ^ 64 → s.pstate = .startSession →
      exec (.feChecksumError now r c) s =
        .next (enteredInit now { recorded (.x1 r c) s with lastFrameEnd := now })) ∧
    (now.toNat + s.cfg.t3Us < 2 ^ 64 → s.pstate ≠ .startSession →
      exec (.feChecksumError now r c) s = .next
        { recorded (.x1 r c) s with
          lastFrameEnd := now, errorCounter := BitVec.ofNat 8 (min (s.errorCounter.toNat + 1) 255) }) ∧
    exec .seInProgress s = .next s ∧
    (now.toNat + s.cfg.t3Us < 2 ^ 64 → exec (.seDone now) s = .next (endedFastInit now s))

/-- 30_encoding.md R93 (reserved event codes), R88 (records never produced), R91 and 10_state.md R36 (line_mode 3): the rows that
only stop. -/
def Obligations.ReservedEncodingsAreRefused : Prop :=
  ∀ (s : State) (rec : Record),
    exec .evReserved9 s = .refused (.reservedEventCode 0x9) ∧ exec .evReservedA s = .refused (.reservedEventCode 0xA) ∧
    exec .evReservedB s = .refused (.reservedEventCode 0xB) ∧ exec .evReservedC s = .refused (.reservedEventCode 0xC) ∧
    exec .evReservedD s = .refused (.reservedEventCode 0xD) ∧ exec .evReservedE s = .refused (.reservedEventCode 0xE) ∧
    exec .evReservedF s = .refused (.reservedEventCode 0xF) ∧
    exec (.recOtherKind rec) s = .refused .malformedRecord ∧ exec .lineMode3 s = .refused .lineModeNeverWritten
end

