-- ==== Sys2Proof/Laws/Memory.lean ====
section
/-! SUPPORT. The frame buffer: a read after a write, the canonical form, and the bytes below a length. -/

namespace Sys2Proof.Machine

theorem memRead_memWrite_same (m : Memory) (a : Nat) (b : Byte) : memRead (memWrite m a b) a = some b := by
  induction m with
  | nil => simp [memWrite, memRead]
  | cons c cs ih =>
    simp only [memWrite]
    split
    · simp [memRead]
    · split
      · simp [memRead]
      · rename_i h1 h2
        have : c.1 ≠ a := fun h => h2 h.symm
        simp [memRead, this, ih]

theorem memRead_memWrite_other (m : Memory) (a a' : Nat) (b : Byte) (h : a' ≠ a) :
    memRead (memWrite m a b) a' = memRead m a' := by
  induction m with
  | nil => simp [memWrite, memRead, h.symm]
  | cons c cs ih =>
    simp only [memWrite]
    split
    · simp [memRead, h.symm]
    · split
      · rename_i h1 h2
        have : c.1 ≠ a' := fun hc => h (by omega)
        simp [memRead, h.symm, this]
      · simp [memRead, ih]

theorem memRead_memWrite (m : Memory) (a a' : Nat) (b : Byte) :
    memRead (memWrite m a b) a' = if a' = a then some b else memRead m a' := by
  split
  · rename_i h; subst h; exact memRead_memWrite_same m a' b
  · rename_i h; exact memRead_memWrite_other m a a' b h

/-- Where a written cell comes from. -/
theorem mem_memWrite {m : Memory} {a : Nat} {b : Byte} {d : Host.Cell} (h : d ∈ memWrite m a b) :
    d = (a, b) ∨ d ∈ m := by
  induction m with
  | nil => simpa [memWrite] using h
  | cons c cs ih =>
    simp only [memWrite] at h
    split at h
    · rcases List.mem_cons.1 h with h | h
      · exact .inl h
      · exact .inr h
    · split at h
      · rcases List.mem_cons.1 h with h | h
        · exact .inl h
        · exact .inr (List.mem_cons_of_mem _ h)
      · rcases List.mem_cons.1 h with h | h
        · exact .inr (h ▸ List.mem_cons_self)
        · rcases ih h with h | h
          · exact .inl h
          · exact .inr (List.mem_cons_of_mem _ h)

@[simp] theorem memory_wf_nil : Memory.wf [] = true := rfl

/-- The memory after reset is in canonical form. -/
theorem reset_frameBuf_wf : Memory.wf State.reset.frameBuf = true := rfl

theorem memory_wf_cons (c : Host.Cell) (cs : Memory) :
    Memory.wf (c :: cs) = true ↔ (∀ d ∈ cs, c.1 < d.1) ∧ Memory.wf cs = true := by
  simp [Memory.wf]

/-- A write keeps the canonical form. -/
theorem memWrite_wf {m : Memory} (a : Nat) (b : Byte) (h : Memory.wf m = true) : Memory.wf (memWrite m a b) = true := by
  induction m with
  | nil => simp [memWrite, Memory.wf]
  | cons c cs ih =>
    obtain ⟨hc, hcs⟩ := (memory_wf_cons c cs).1 h
    simp only [memWrite]
    split
    · rename_i hlt
      refine (memory_wf_cons _ _).2 ⟨fun d hd => ?_, h⟩
      rcases List.mem_cons.1 hd with rfl | hd
      · exact hlt
      · exact lt_trans hlt (hc d hd)
    · split
      · rename_i heq
        exact (memory_wf_cons _ _).2 ⟨fun d hd => by have := hc d hd; simp only; omega, hcs⟩
      · rename_i hnlt hne
        refine (memory_wf_cons _ _).2 ⟨fun d hd => ?_, ih hcs⟩
        rcases mem_memWrite hd with rfl | hd
        · simp only; omega
        · exact hc d hd

/-- The bytes below a length exist exactly when each of them has been written. -/
theorem memPrefix_isSome (m : Memory) (n : Nat) :
    (memPrefix m n).isSome = true ↔ ∀ a, a < n → (memRead m a).isSome = true := by
  induction n with
  | zero => simp [memPrefix]
  | succ n ih =>
    constructor
    · intro h a ha
      simp only [memPrefix] at h
      split at h
      · rename_i bs b h1 h2
        rcases Nat.lt_succ_iff_lt_or_eq.1 ha with ha | rfl
        · exact ih.1 (by simp [h1]) a ha
        · simp [h2]
      · simp at h
    · intro h
      have h1 : (memPrefix m n).isSome = true := ih.2 fun a ha => h a (by omega)
      have h2 : (memRead m n).isSome = true := h n (by omega)
      obtain ⟨bs, hbs⟩ := Option.isSome_iff_exists.1 h1
      obtain ⟨b, hb⟩ := Option.isSome_iff_exists.1 h2
      simp [memPrefix, hbs, hb]

/-- The bytes below a length: how many, and which. -/
theorem memPrefix_spec {m : Memory} {n : Nat} {bs : List Byte} (h : memPrefix m n = some bs) :
    bs.length = n ∧ ∀ a, a < n → memRead m a = bs[a]? := by
  induction n generalizing bs with
  | zero => simp [memPrefix] at h; subst h; simp
  | succ n ih =>
    simp only [memPrefix] at h
    split at h
    · rename_i bs' b h1 h2
      obtain ⟨hl, hr⟩ := ih h1
      simp only [Option.some.injEq] at h
      subst h
      refine ⟨by simp [hl], fun a ha => ?_⟩
      rcases Nat.lt_succ_iff_lt_or_eq.1 ha with ha | rfl
      · rw [hr a ha, List.getElem?_append_left (by omega)]
      · rw [h2, List.getElem?_append_right (by omega)]; simp [hl]
    · simp at h

/-- A write at or above a length leaves the bytes below it alone. -/
theorem memPrefix_memWrite (m : Memory) (a n : Nat) (b : Byte) (h : n ≤ a) :
    memPrefix (memWrite m a b) n = memPrefix m n := by
  induction n with
  | zero => rfl
  | succ n ih =>
    simp only [memPrefix, ih (by omega), memRead_memWrite_other m a n b (by omega)]

/-- Writing the byte after a length extends the bytes below it. -/
theorem memPrefix_succ_memWrite {m : Memory} {n : Nat} {bs : List Byte} (b : Byte) (h : memPrefix m n = some bs) :
    memPrefix (memWrite m n b) (n + 1) = some (bs ++ [b]) := by
  simp [memPrefix, memPrefix_memWrite m n n b le_rfl, h, memRead_memWrite_same]

end Sys2Proof.Machine
end

