-- ==== Sys2Proof/Laws/State.lean ====
section
/-! SUPPORT. One lemma per field per named update of State, each true by rfl; and the updates that are one of these by another
name. No later proof unfolds a record update. -/

namespace Sys2Proof.Machine

variable (s : State)

@[simp] theorem raise_eq (a : Anomaly) : raise a s = emit [.raised a] s := rfl
@[simp] theorem txBytes_eq (bs : List Byte) : txBytes bs s = emit (bs.map .tx) s := rfl
@[simp] theorem State.seqStarted_eq : s.seqStarted = s.sequencer.started := rfl
@[simp] theorem State.fastinitStart_eq : s.fastinitStart = s.sequencer.start := rfl
@[simp] theorem Sequencer.started_idle (l : Option Time) : (Sequencer.idle l).started = false := rfl
@[simp] theorem Sequencer.started_latched (t : Time) : (Sequencer.latched t).started = true := rfl
@[simp] theorem Sequencer.start_idle (l : Option Time) : (Sequencer.idle l).start = l := rfl
@[simp] theorem Sequencer.start_latched (t : Time) : (Sequencer.latched t).start = some t := rfl
@[simp] theorem sendStatus_eq (st : Status) : sendStatus st s = offer (statusRecord s.cfg st) s := rfl
@[simp] theorem sendFrame_eq (f : List Byte) : sendFrame f s = offer (frameRecord s.cfg f) s := rfl

/-! ### emit -/

@[simp] theorem emit_running (es : List TraceEvent) : (emit es s).running = s.running := rfl
@[simp] theorem emit_pstate (es : List TraceEvent) : (emit es s).pstate = s.pstate := rfl
@[simp] theorem emit_sequencer (es : List TraceEvent) : (emit es s).sequencer = s.sequencer := rfl
@[simp] theorem emit_inCount (es : List TraceEvent) : (emit es s).inCount = s.inCount := rfl
@[simp] theorem emit_sentCount (es : List TraceEvent) : (emit es s).sentCount = s.sentCount := rfl
@[simp] theorem emit_expectedLength (es : List TraceEvent) : (emit es s).expectedLength = s.expectedLength := rfl
@[simp] theorem emit_frameLen (es : List TraceEvent) : (emit es s).frameLen = s.frameLen := rfl
@[simp] theorem emit_runningChecksum (es : List TraceEvent) : (emit es s).runningChecksum = s.runningChecksum := rfl
@[simp] theorem emit_frameBuf (es : List TraceEvent) : (emit es s).frameBuf = s.frameBuf := rfl
@[simp] theorem emit_lastFrameEnd (es : List TraceEvent) : (emit es s).lastFrameEnd = s.lastFrameEnd := rfl
@[simp] theorem emit_watchdogDeadline (es : List TraceEvent) : (emit es s).watchdogDeadline = s.watchdogDeadline := rfl
@[simp] theorem emit_errorCounter (es : List TraceEvent) : (emit es s).errorCounter = s.errorCounter := rfl
@[simp] theorem emit_queue (es : List TraceEvent) : (emit es s).queue = s.queue := rfl
@[simp] theorem emit_rxFifo (es : List TraceEvent) : (emit es s).rxFifo = s.rxFifo := rfl
@[simp] theorem emit_lineMode (es : List TraceEvent) : (emit es s).lineMode = s.lineMode := rfl
@[simp] theorem emit_lineLevel (es : List TraceEvent) : (emit es s).lineLevel = s.lineLevel := rfl
@[simp] theorem emit_restartReq (es : List TraceEvent) : (emit es s).restartReq = s.restartReq := rfl
@[simp] theorem emit_tickOrigin (es : List TraceEvent) : (emit es s).tickOrigin = s.tickOrigin := rfl
@[simp] theorem emit_tickCount (es : List TraceEvent) : (emit es s).tickCount = s.tickCount := rfl
@[simp] theorem emit_lastSample (es : List TraceEvent) : (emit es s).lastSample = s.lastSample := rfl
@[simp] theorem emit_initDone (es : List TraceEvent) : (emit es s).initDone = s.initDone := rfl
@[simp] theorem emit_cfg (es : List TraceEvent) : (emit es s).cfg = s.cfg := rfl
@[simp] theorem emit_resultOut (es : List TraceEvent) : (emit es s).resultOut = s.resultOut := rfl
@[simp] theorem emit_popOut (es : List TraceEvent) : (emit es s).popOut = s.popOut := rfl
@[simp] theorem emit_trace (es : List TraceEvent) : (emit es s).trace = s.trace ++ es := rfl
@[simp] theorem emit_stimulus (es : List TraceEvent) : (emit es s).stimulus = s.stimulus := rfl

/-! ### sampleTime -/

@[simp] theorem sampleTime_running (now : Time) : (sampleTime now s).running = s.running := rfl
@[simp] theorem sampleTime_pstate (now : Time) : (sampleTime now s).pstate = s.pstate := rfl
@[simp] theorem sampleTime_sequencer (now : Time) : (sampleTime now s).sequencer = s.sequencer := rfl
@[simp] theorem sampleTime_inCount (now : Time) : (sampleTime now s).inCount = s.inCount := rfl
@[simp] theorem sampleTime_sentCount (now : Time) : (sampleTime now s).sentCount = s.sentCount := rfl
@[simp] theorem sampleTime_expectedLength (now : Time) : (sampleTime now s).expectedLength = s.expectedLength := rfl
@[simp] theorem sampleTime_frameLen (now : Time) : (sampleTime now s).frameLen = s.frameLen := rfl
@[simp] theorem sampleTime_runningChecksum (now : Time) : (sampleTime now s).runningChecksum = s.runningChecksum := rfl
@[simp] theorem sampleTime_frameBuf (now : Time) : (sampleTime now s).frameBuf = s.frameBuf := rfl
@[simp] theorem sampleTime_lastFrameEnd (now : Time) : (sampleTime now s).lastFrameEnd = s.lastFrameEnd := rfl
@[simp] theorem sampleTime_watchdogDeadline (now : Time) : (sampleTime now s).watchdogDeadline = s.watchdogDeadline := rfl
@[simp] theorem sampleTime_errorCounter (now : Time) : (sampleTime now s).errorCounter = s.errorCounter := rfl
@[simp] theorem sampleTime_queue (now : Time) : (sampleTime now s).queue = s.queue := rfl
@[simp] theorem sampleTime_rxFifo (now : Time) : (sampleTime now s).rxFifo = s.rxFifo := rfl
@[simp] theorem sampleTime_lineMode (now : Time) : (sampleTime now s).lineMode = s.lineMode := rfl
@[simp] theorem sampleTime_lineLevel (now : Time) : (sampleTime now s).lineLevel = s.lineLevel := rfl
@[simp] theorem sampleTime_restartReq (now : Time) : (sampleTime now s).restartReq = s.restartReq := rfl
@[simp] theorem sampleTime_tickOrigin (now : Time) : (sampleTime now s).tickOrigin = s.tickOrigin := rfl
@[simp] theorem sampleTime_tickCount (now : Time) : (sampleTime now s).tickCount = s.tickCount := rfl
@[simp] theorem sampleTime_lastSample (now : Time) : (sampleTime now s).lastSample = now := rfl
@[simp] theorem sampleTime_initDone (now : Time) : (sampleTime now s).initDone = s.initDone := rfl
@[simp] theorem sampleTime_cfg (now : Time) : (sampleTime now s).cfg = s.cfg := rfl
@[simp] theorem sampleTime_resultOut (now : Time) : (sampleTime now s).resultOut = s.resultOut := rfl
@[simp] theorem sampleTime_popOut (now : Time) : (sampleTime now s).popOut = s.popOut := rfl
@[simp] theorem sampleTime_trace (now : Time) : (sampleTime now s).trace = s.trace := rfl
@[simp] theorem sampleTime_stimulus (now : Time) : (sampleTime now s).stimulus = s.stimulus := rfl

/-! ### clearLatch -/

@[simp] theorem clearLatch_running : (clearLatch s).running = s.running := rfl
@[simp] theorem clearLatch_pstate : (clearLatch s).pstate = s.pstate := rfl
@[simp] theorem clearLatch_sequencer : (clearLatch s).sequencer = .idle s.fastinitStart := rfl
@[simp] theorem clearLatch_inCount : (clearLatch s).inCount = s.inCount := rfl
@[simp] theorem clearLatch_sentCount : (clearLatch s).sentCount = s.sentCount := rfl
@[simp] theorem clearLatch_expectedLength : (clearLatch s).expectedLength = s.expectedLength := rfl
@[simp] theorem clearLatch_frameLen : (clearLatch s).frameLen = s.frameLen := rfl
@[simp] theorem clearLatch_runningChecksum : (clearLatch s).runningChecksum = s.runningChecksum := rfl
@[simp] theorem clearLatch_frameBuf : (clearLatch s).frameBuf = s.frameBuf := rfl
@[simp] theorem clearLatch_lastFrameEnd : (clearLatch s).lastFrameEnd = s.lastFrameEnd := rfl
@[simp] theorem clearLatch_watchdogDeadline : (clearLatch s).watchdogDeadline = s.watchdogDeadline := rfl
@[simp] theorem clearLatch_errorCounter : (clearLatch s).errorCounter = s.errorCounter := rfl
@[simp] theorem clearLatch_queue : (clearLatch s).queue = s.queue := rfl
@[simp] theorem clearLatch_rxFifo : (clearLatch s).rxFifo = s.rxFifo := rfl
@[simp] theorem clearLatch_lineMode : (clearLatch s).lineMode = s.lineMode := rfl
@[simp] theorem clearLatch_lineLevel : (clearLatch s).lineLevel = s.lineLevel := rfl
@[simp] theorem clearLatch_restartReq : (clearLatch s).restartReq = s.restartReq := rfl
@[simp] theorem clearLatch_tickOrigin : (clearLatch s).tickOrigin = s.tickOrigin := rfl
@[simp] theorem clearLatch_tickCount : (clearLatch s).tickCount = s.tickCount := rfl
@[simp] theorem clearLatch_lastSample : (clearLatch s).lastSample = s.lastSample := rfl
@[simp] theorem clearLatch_initDone : (clearLatch s).initDone = s.initDone := rfl
@[simp] theorem clearLatch_cfg : (clearLatch s).cfg = s.cfg := rfl
@[simp] theorem clearLatch_resultOut : (clearLatch s).resultOut = s.resultOut := rfl
@[simp] theorem clearLatch_popOut : (clearLatch s).popOut = s.popOut := rfl
@[simp] theorem clearLatch_trace : (clearLatch s).trace = s.trace := rfl
@[simp] theorem clearLatch_stimulus : (clearLatch s).stimulus = s.stimulus := rfl

/-! ### latchStart -/

@[simp] theorem latchStart_running (now : Time) : (latchStart now s).running = s.running := rfl
@[simp] theorem latchStart_pstate (now : Time) : (latchStart now s).pstate = s.pstate := rfl
@[simp] theorem latchStart_sequencer (now : Time) : (latchStart now s).sequencer = .latched (latchedStart now s) := rfl
@[simp] theorem latchStart_inCount (now : Time) : (latchStart now s).inCount = s.inCount := rfl
@[simp] theorem latchStart_sentCount (now : Time) : (latchStart now s).sentCount = s.sentCount := rfl
@[simp] theorem latchStart_expectedLength (now : Time) : (latchStart now s).expectedLength = s.expectedLength := rfl
@[simp] theorem latchStart_frameLen (now : Time) : (latchStart now s).frameLen = s.frameLen := rfl
@[simp] theorem latchStart_runningChecksum (now : Time) : (latchStart now s).runningChecksum = s.runningChecksum := rfl
@[simp] theorem latchStart_frameBuf (now : Time) : (latchStart now s).frameBuf = s.frameBuf := rfl
@[simp] theorem latchStart_lastFrameEnd (now : Time) : (latchStart now s).lastFrameEnd = s.lastFrameEnd := rfl
@[simp] theorem latchStart_watchdogDeadline (now : Time) : (latchStart now s).watchdogDeadline = s.watchdogDeadline := rfl
@[simp] theorem latchStart_errorCounter (now : Time) : (latchStart now s).errorCounter = s.errorCounter := rfl
@[simp] theorem latchStart_queue (now : Time) : (latchStart now s).queue = s.queue := rfl
@[simp] theorem latchStart_rxFifo (now : Time) : (latchStart now s).rxFifo = s.rxFifo := rfl
@[simp] theorem latchStart_lineMode (now : Time) : (latchStart now s).lineMode = s.lineMode := rfl
@[simp] theorem latchStart_lineLevel (now : Time) : (latchStart now s).lineLevel = s.lineLevel := rfl
@[simp] theorem latchStart_restartReq (now : Time) : (latchStart now s).restartReq = s.restartReq := rfl
@[simp] theorem latchStart_tickOrigin (now : Time) : (latchStart now s).tickOrigin = s.tickOrigin := rfl
@[simp] theorem latchStart_tickCount (now : Time) : (latchStart now s).tickCount = s.tickCount := rfl
@[simp] theorem latchStart_lastSample (now : Time) : (latchStart now s).lastSample = s.lastSample := rfl
@[simp] theorem latchStart_initDone (now : Time) : (latchStart now s).initDone = s.initDone := rfl
@[simp] theorem latchStart_cfg (now : Time) : (latchStart now s).cfg = s.cfg := rfl
@[simp] theorem latchStart_resultOut (now : Time) : (latchStart now s).resultOut = s.resultOut := rfl
@[simp] theorem latchStart_popOut (now : Time) : (latchStart now s).popOut = s.popOut := rfl
@[simp] theorem latchStart_trace (now : Time) : (latchStart now s).trace = s.trace := rfl
@[simp] theorem latchStart_stimulus (now : Time) : (latchStart now s).stimulus = s.stimulus := rfl

/-! ### setLineMode -/

@[simp] theorem setLineMode_running (m : LineMode) : (setLineMode m s).running = s.running := rfl
@[simp] theorem setLineMode_pstate (m : LineMode) : (setLineMode m s).pstate = s.pstate := rfl
@[simp] theorem setLineMode_sequencer (m : LineMode) : (setLineMode m s).sequencer = s.sequencer := rfl
@[simp] theorem setLineMode_inCount (m : LineMode) : (setLineMode m s).inCount = s.inCount := rfl
@[simp] theorem setLineMode_sentCount (m : LineMode) : (setLineMode m s).sentCount = s.sentCount := rfl
@[simp] theorem setLineMode_expectedLength (m : LineMode) : (setLineMode m s).expectedLength = s.expectedLength := rfl
@[simp] theorem setLineMode_frameLen (m : LineMode) : (setLineMode m s).frameLen = s.frameLen := rfl
@[simp] theorem setLineMode_runningChecksum (m : LineMode) : (setLineMode m s).runningChecksum = s.runningChecksum := rfl
@[simp] theorem setLineMode_frameBuf (m : LineMode) : (setLineMode m s).frameBuf = s.frameBuf := rfl
@[simp] theorem setLineMode_lastFrameEnd (m : LineMode) : (setLineMode m s).lastFrameEnd = s.lastFrameEnd := rfl
@[simp] theorem setLineMode_watchdogDeadline (m : LineMode) : (setLineMode m s).watchdogDeadline = s.watchdogDeadline := rfl
@[simp] theorem setLineMode_errorCounter (m : LineMode) : (setLineMode m s).errorCounter = s.errorCounter := rfl
@[simp] theorem setLineMode_queue (m : LineMode) : (setLineMode m s).queue = s.queue := rfl
@[simp] theorem setLineMode_rxFifo (m : LineMode) : (setLineMode m s).rxFifo = s.rxFifo := rfl
@[simp] theorem setLineMode_lineMode (m : LineMode) : (setLineMode m s).lineMode = m := rfl
@[simp] theorem setLineMode_lineLevel (m : LineMode) : (setLineMode m s).lineLevel = s.lineLevel := rfl
@[simp] theorem setLineMode_restartReq (m : LineMode) : (setLineMode m s).restartReq = s.restartReq := rfl
@[simp] theorem setLineMode_tickOrigin (m : LineMode) : (setLineMode m s).tickOrigin = s.tickOrigin := rfl
@[simp] theorem setLineMode_tickCount (m : LineMode) : (setLineMode m s).tickCount = s.tickCount := rfl
@[simp] theorem setLineMode_lastSample (m : LineMode) : (setLineMode m s).lastSample = s.lastSample := rfl
@[simp] theorem setLineMode_initDone (m : LineMode) : (setLineMode m s).initDone = s.initDone := rfl
@[simp] theorem setLineMode_cfg (m : LineMode) : (setLineMode m s).cfg = s.cfg := rfl
@[simp] theorem setLineMode_resultOut (m : LineMode) : (setLineMode m s).resultOut = s.resultOut := rfl
@[simp] theorem setLineMode_popOut (m : LineMode) : (setLineMode m s).popOut = s.popOut := rfl
@[simp] theorem setLineMode_trace (m : LineMode) : (setLineMode m s).trace = s.trace ++ if s.lineMode = m then [] else [.lineMode m] := rfl
@[simp] theorem setLineMode_stimulus (m : LineMode) : (setLineMode m s).stimulus = s.stimulus := rfl

/-! ### setLineLevel -/

@[simp] theorem setLineLevel_running (l : LineLevel) : (setLineLevel l s).running = s.running := rfl
@[simp] theorem setLineLevel_pstate (l : LineLevel) : (setLineLevel l s).pstate = s.pstate := rfl
@[simp] theorem setLineLevel_sequencer (l : LineLevel) : (setLineLevel l s).sequencer = s.sequencer := rfl
@[simp] theorem setLineLevel_inCount (l : LineLevel) : (setLineLevel l s).inCount = s.inCount := rfl
@[simp] theorem setLineLevel_sentCount (l : LineLevel) : (setLineLevel l s).sentCount = s.sentCount := rfl
@[simp] theorem setLineLevel_expectedLength (l : LineLevel) : (setLineLevel l s).expectedLength = s.expectedLength := rfl
@[simp] theorem setLineLevel_frameLen (l : LineLevel) : (setLineLevel l s).frameLen = s.frameLen := rfl
@[simp] theorem setLineLevel_runningChecksum (l : LineLevel) : (setLineLevel l s).runningChecksum = s.runningChecksum := rfl
@[simp] theorem setLineLevel_frameBuf (l : LineLevel) : (setLineLevel l s).frameBuf = s.frameBuf := rfl
@[simp] theorem setLineLevel_lastFrameEnd (l : LineLevel) : (setLineLevel l s).lastFrameEnd = s.lastFrameEnd := rfl
@[simp] theorem setLineLevel_watchdogDeadline (l : LineLevel) : (setLineLevel l s).watchdogDeadline = s.watchdogDeadline := rfl
@[simp] theorem setLineLevel_errorCounter (l : LineLevel) : (setLineLevel l s).errorCounter = s.errorCounter := rfl
@[simp] theorem setLineLevel_queue (l : LineLevel) : (setLineLevel l s).queue = s.queue := rfl
@[simp] theorem setLineLevel_rxFifo (l : LineLevel) : (setLineLevel l s).rxFifo = s.rxFifo := rfl
@[simp] theorem setLineLevel_lineMode (l : LineLevel) : (setLineLevel l s).lineMode = s.lineMode := rfl
@[simp] theorem setLineLevel_lineLevel (l : LineLevel) : (setLineLevel l s).lineLevel = l := rfl
@[simp] theorem setLineLevel_restartReq (l : LineLevel) : (setLineLevel l s).restartReq = s.restartReq := rfl
@[simp] theorem setLineLevel_tickOrigin (l : LineLevel) : (setLineLevel l s).tickOrigin = s.tickOrigin := rfl
@[simp] theorem setLineLevel_tickCount (l : LineLevel) : (setLineLevel l s).tickCount = s.tickCount := rfl
@[simp] theorem setLineLevel_lastSample (l : LineLevel) : (setLineLevel l s).lastSample = s.lastSample := rfl
@[simp] theorem setLineLevel_initDone (l : LineLevel) : (setLineLevel l s).initDone = s.initDone := rfl
@[simp] theorem setLineLevel_cfg (l : LineLevel) : (setLineLevel l s).cfg = s.cfg := rfl
@[simp] theorem setLineLevel_resultOut (l : LineLevel) : (setLineLevel l s).resultOut = s.resultOut := rfl
@[simp] theorem setLineLevel_popOut (l : LineLevel) : (setLineLevel l s).popOut = s.popOut := rfl
@[simp] theorem setLineLevel_trace (l : LineLevel) : (setLineLevel l s).trace = s.trace ++ if s.lineLevel = l then [] else [.lineLevel l] := rfl
@[simp] theorem setLineLevel_stimulus (l : LineLevel) : (setLineLevel l s).stimulus = s.stimulus := rfl

/-! ### rxArrive -/

@[simp] theorem rxArrive_running (b : Byte) : (rxArrive b s).running = s.running := rfl
@[simp] theorem rxArrive_pstate (b : Byte) : (rxArrive b s).pstate = s.pstate := rfl
@[simp] theorem rxArrive_sequencer (b : Byte) : (rxArrive b s).sequencer = s.sequencer := rfl
@[simp] theorem rxArrive_inCount (b : Byte) : (rxArrive b s).inCount = s.inCount := rfl
@[simp] theorem rxArrive_sentCount (b : Byte) : (rxArrive b s).sentCount = s.sentCount := rfl
@[simp] theorem rxArrive_expectedLength (b : Byte) : (rxArrive b s).expectedLength = s.expectedLength := rfl
@[simp] theorem rxArrive_frameLen (b : Byte) : (rxArrive b s).frameLen = s.frameLen := rfl
@[simp] theorem rxArrive_runningChecksum (b : Byte) : (rxArrive b s).runningChecksum = s.runningChecksum := rfl
@[simp] theorem rxArrive_frameBuf (b : Byte) : (rxArrive b s).frameBuf = s.frameBuf := rfl
@[simp] theorem rxArrive_lastFrameEnd (b : Byte) : (rxArrive b s).lastFrameEnd = s.lastFrameEnd := rfl
@[simp] theorem rxArrive_watchdogDeadline (b : Byte) : (rxArrive b s).watchdogDeadline = s.watchdogDeadline := rfl
@[simp] theorem rxArrive_errorCounter (b : Byte) : (rxArrive b s).errorCounter = s.errorCounter := rfl
@[simp] theorem rxArrive_queue (b : Byte) : (rxArrive b s).queue = s.queue := rfl
@[simp] theorem rxArrive_rxFifo (b : Byte) : (rxArrive b s).rxFifo = arrivalFifo b s := rfl
@[simp] theorem rxArrive_lineMode (b : Byte) : (rxArrive b s).lineMode = s.lineMode := rfl
@[simp] theorem rxArrive_lineLevel (b : Byte) : (rxArrive b s).lineLevel = s.lineLevel := rfl
@[simp] theorem rxArrive_restartReq (b : Byte) : (rxArrive b s).restartReq = s.restartReq := rfl
@[simp] theorem rxArrive_tickOrigin (b : Byte) : (rxArrive b s).tickOrigin = s.tickOrigin := rfl
@[simp] theorem rxArrive_tickCount (b : Byte) : (rxArrive b s).tickCount = s.tickCount := rfl
@[simp] theorem rxArrive_lastSample (b : Byte) : (rxArrive b s).lastSample = s.lastSample := rfl
@[simp] theorem rxArrive_initDone (b : Byte) : (rxArrive b s).initDone = s.initDone := rfl
@[simp] theorem rxArrive_cfg (b : Byte) : (rxArrive b s).cfg = s.cfg := rfl
@[simp] theorem rxArrive_resultOut (b : Byte) : (rxArrive b s).resultOut = s.resultOut := rfl
@[simp] theorem rxArrive_popOut (b : Byte) : (rxArrive b s).popOut = s.popOut := rfl
@[simp] theorem rxArrive_trace (b : Byte) : (rxArrive b s).trace = s.trace ++ arrivalTrace b s := rfl
@[simp] theorem rxArrive_stimulus (b : Byte) : (rxArrive b s).stimulus = s.stimulus := rfl

/-! ### flushRx -/

@[simp] theorem flushRx_running : (flushRx s).running = s.running := rfl
@[simp] theorem flushRx_pstate : (flushRx s).pstate = s.pstate := rfl
@[simp] theorem flushRx_sequencer : (flushRx s).sequencer = s.sequencer := rfl
@[simp] theorem flushRx_inCount : (flushRx s).inCount = s.inCount := rfl
@[simp] theorem flushRx_sentCount : (flushRx s).sentCount = s.sentCount := rfl
@[simp] theorem flushRx_expectedLength : (flushRx s).expectedLength = s.expectedLength := rfl
@[simp] theorem flushRx_frameLen : (flushRx s).frameLen = s.frameLen := rfl
@[simp] theorem flushRx_runningChecksum : (flushRx s).runningChecksum = s.runningChecksum := rfl
@[simp] theorem flushRx_frameBuf : (flushRx s).frameBuf = s.frameBuf := rfl
@[simp] theorem flushRx_lastFrameEnd : (flushRx s).lastFrameEnd = s.lastFrameEnd := rfl
@[simp] theorem flushRx_watchdogDeadline : (flushRx s).watchdogDeadline = s.watchdogDeadline := rfl
@[simp] theorem flushRx_errorCounter : (flushRx s).errorCounter = s.errorCounter := rfl
@[simp] theorem flushRx_queue : (flushRx s).queue = s.queue := rfl
@[simp] theorem flushRx_rxFifo : (flushRx s).rxFifo = [] := rfl
@[simp] theorem flushRx_lineMode : (flushRx s).lineMode = s.lineMode := rfl
@[simp] theorem flushRx_lineLevel : (flushRx s).lineLevel = s.lineLevel := rfl
@[simp] theorem flushRx_restartReq : (flushRx s).restartReq = s.restartReq := rfl
@[simp] theorem flushRx_tickOrigin : (flushRx s).tickOrigin = s.tickOrigin := rfl
@[simp] theorem flushRx_tickCount : (flushRx s).tickCount = s.tickCount := rfl
@[simp] theorem flushRx_lastSample : (flushRx s).lastSample = s.lastSample := rfl
@[simp] theorem flushRx_initDone : (flushRx s).initDone = s.initDone := rfl
@[simp] theorem flushRx_cfg : (flushRx s).cfg = s.cfg := rfl
@[simp] theorem flushRx_resultOut : (flushRx s).resultOut = s.resultOut := rfl
@[simp] theorem flushRx_popOut : (flushRx s).popOut = s.popOut := rfl
@[simp] theorem flushRx_trace : (flushRx s).trace = s.trace := rfl
@[simp] theorem flushRx_stimulus : (flushRx s).stimulus = s.stimulus := rfl

/-! ### offer -/

@[simp] theorem offer_running (r : Record) : (offer r s).running = s.running := rfl
@[simp] theorem offer_pstate (r : Record) : (offer r s).pstate = s.pstate := rfl
@[simp] theorem offer_sequencer (r : Record) : (offer r s).sequencer = s.sequencer := rfl
@[simp] theorem offer_inCount (r : Record) : (offer r s).inCount = s.inCount := rfl
@[simp] theorem offer_sentCount (r : Record) : (offer r s).sentCount = s.sentCount := rfl
@[simp] theorem offer_expectedLength (r : Record) : (offer r s).expectedLength = s.expectedLength := rfl
@[simp] theorem offer_frameLen (r : Record) : (offer r s).frameLen = s.frameLen := rfl
@[simp] theorem offer_runningChecksum (r : Record) : (offer r s).runningChecksum = s.runningChecksum := rfl
@[simp] theorem offer_frameBuf (r : Record) : (offer r s).frameBuf = s.frameBuf := rfl
@[simp] theorem offer_lastFrameEnd (r : Record) : (offer r s).lastFrameEnd = s.lastFrameEnd := rfl
@[simp] theorem offer_watchdogDeadline (r : Record) : (offer r s).watchdogDeadline = s.watchdogDeadline := rfl
@[simp] theorem offer_errorCounter (r : Record) : (offer r s).errorCounter = s.errorCounter := rfl
@[simp] theorem offer_queue (r : Record) : (offer r s).queue = if queueFull s then s.queue else s.queue ++ [r] := rfl
@[simp] theorem offer_rxFifo (r : Record) : (offer r s).rxFifo = s.rxFifo := rfl
@[simp] theorem offer_lineMode (r : Record) : (offer r s).lineMode = s.lineMode := rfl
@[simp] theorem offer_lineLevel (r : Record) : (offer r s).lineLevel = s.lineLevel := rfl
@[simp] theorem offer_restartReq (r : Record) : (offer r s).restartReq = s.restartReq := rfl
@[simp] theorem offer_tickOrigin (r : Record) : (offer r s).tickOrigin = s.tickOrigin := rfl
@[simp] theorem offer_tickCount (r : Record) : (offer r s).tickCount = s.tickCount := rfl
@[simp] theorem offer_lastSample (r : Record) : (offer r s).lastSample = s.lastSample := rfl
@[simp] theorem offer_initDone (r : Record) : (offer r s).initDone = s.initDone := rfl
@[simp] theorem offer_cfg (r : Record) : (offer r s).cfg = s.cfg := rfl
@[simp] theorem offer_resultOut (r : Record) : (offer r s).resultOut = s.resultOut := rfl
@[simp] theorem offer_popOut (r : Record) : (offer r s).popOut = s.popOut := rfl
@[simp] theorem offer_trace (r : Record) : (offer r s).trace = s.trace ++ offerTrace r s := rfl
@[simp] theorem offer_stimulus (r : Record) : (offer r s).stimulus = s.stimulus := rfl

/-! ### returnResult -/

@[simp] theorem returnResult_running (c : ResultCode) : (returnResult c s).running = s.running := rfl
@[simp] theorem returnResult_pstate (c : ResultCode) : (returnResult c s).pstate = s.pstate := rfl
@[simp] theorem returnResult_sequencer (c : ResultCode) : (returnResult c s).sequencer = s.sequencer := rfl
@[simp] theorem returnResult_inCount (c : ResultCode) : (returnResult c s).inCount = s.inCount := rfl
@[simp] theorem returnResult_sentCount (c : ResultCode) : (returnResult c s).sentCount = s.sentCount := rfl
@[simp] theorem returnResult_expectedLength (c : ResultCode) : (returnResult c s).expectedLength = s.expectedLength := rfl
@[simp] theorem returnResult_frameLen (c : ResultCode) : (returnResult c s).frameLen = s.frameLen := rfl
@[simp] theorem returnResult_runningChecksum (c : ResultCode) : (returnResult c s).runningChecksum = s.runningChecksum := rfl
@[simp] theorem returnResult_frameBuf (c : ResultCode) : (returnResult c s).frameBuf = s.frameBuf := rfl
@[simp] theorem returnResult_lastFrameEnd (c : ResultCode) : (returnResult c s).lastFrameEnd = s.lastFrameEnd := rfl
@[simp] theorem returnResult_watchdogDeadline (c : ResultCode) : (returnResult c s).watchdogDeadline = s.watchdogDeadline := rfl
@[simp] theorem returnResult_errorCounter (c : ResultCode) : (returnResult c s).errorCounter = s.errorCounter := rfl
@[simp] theorem returnResult_queue (c : ResultCode) : (returnResult c s).queue = s.queue := rfl
@[simp] theorem returnResult_rxFifo (c : ResultCode) : (returnResult c s).rxFifo = s.rxFifo := rfl
@[simp] theorem returnResult_lineMode (c : ResultCode) : (returnResult c s).lineMode = s.lineMode := rfl
@[simp] theorem returnResult_lineLevel (c : ResultCode) : (returnResult c s).lineLevel = s.lineLevel := rfl
@[simp] theorem returnResult_restartReq (c : ResultCode) : (returnResult c s).restartReq = s.restartReq := rfl
@[simp] theorem returnResult_tickOrigin (c : ResultCode) : (returnResult c s).tickOrigin = s.tickOrigin := rfl
@[simp] theorem returnResult_tickCount (c : ResultCode) : (returnResult c s).tickCount = s.tickCount := rfl
@[simp] theorem returnResult_lastSample (c : ResultCode) : (returnResult c s).lastSample = s.lastSample := rfl
@[simp] theorem returnResult_initDone (c : ResultCode) : (returnResult c s).initDone = s.initDone := rfl
@[simp] theorem returnResult_cfg (c : ResultCode) : (returnResult c s).cfg = s.cfg := rfl
@[simp] theorem returnResult_resultOut (c : ResultCode) : (returnResult c s).resultOut = c := rfl
@[simp] theorem returnResult_popOut (c : ResultCode) : (returnResult c s).popOut = s.popOut := rfl
@[simp] theorem returnResult_trace (c : ResultCode) : (returnResult c s).trace = s.trace ++ [.result c] := rfl
@[simp] theorem returnResult_stimulus (c : ResultCode) : (returnResult c s).stimulus = s.stimulus := rfl

/-! ### requestRestart -/

@[simp] theorem requestRestart_running : (requestRestart s).running = s.running := rfl
@[simp] theorem requestRestart_pstate : (requestRestart s).pstate = s.pstate := rfl
@[simp] theorem requestRestart_sequencer : (requestRestart s).sequencer = s.sequencer := rfl
@[simp] theorem requestRestart_inCount : (requestRestart s).inCount = s.inCount := rfl
@[simp] theorem requestRestart_sentCount : (requestRestart s).sentCount = s.sentCount := rfl
@[simp] theorem requestRestart_expectedLength : (requestRestart s).expectedLength = s.expectedLength := rfl
@[simp] theorem requestRestart_frameLen : (requestRestart s).frameLen = s.frameLen := rfl
@[simp] theorem requestRestart_runningChecksum : (requestRestart s).runningChecksum = s.runningChecksum := rfl
@[simp] theorem requestRestart_frameBuf : (requestRestart s).frameBuf = s.frameBuf := rfl
@[simp] theorem requestRestart_lastFrameEnd : (requestRestart s).lastFrameEnd = s.lastFrameEnd := rfl
@[simp] theorem requestRestart_watchdogDeadline : (requestRestart s).watchdogDeadline = s.watchdogDeadline := rfl
@[simp] theorem requestRestart_errorCounter : (requestRestart s).errorCounter = s.errorCounter := rfl
@[simp] theorem requestRestart_queue : (requestRestart s).queue = s.queue := rfl
@[simp] theorem requestRestart_rxFifo : (requestRestart s).rxFifo = s.rxFifo := rfl
@[simp] theorem requestRestart_lineMode : (requestRestart s).lineMode = s.lineMode := rfl
@[simp] theorem requestRestart_lineLevel : (requestRestart s).lineLevel = s.lineLevel := rfl
@[simp] theorem requestRestart_restartReq : (requestRestart s).restartReq = true := rfl
@[simp] theorem requestRestart_tickOrigin : (requestRestart s).tickOrigin = s.tickOrigin := rfl
@[simp] theorem requestRestart_tickCount : (requestRestart s).tickCount = s.tickCount := rfl
@[simp] theorem requestRestart_lastSample : (requestRestart s).lastSample = s.lastSample := rfl
@[simp] theorem requestRestart_initDone : (requestRestart s).initDone = s.initDone := rfl
@[simp] theorem requestRestart_cfg : (requestRestart s).cfg = s.cfg := rfl
@[simp] theorem requestRestart_resultOut : (requestRestart s).resultOut = s.resultOut := rfl
@[simp] theorem requestRestart_popOut : (requestRestart s).popOut = s.popOut := rfl
@[simp] theorem requestRestart_trace : (requestRestart s).trace = s.trace ++ if s.restartReq then [] else [.restartRise] := rfl
@[simp] theorem requestRestart_stimulus : (requestRestart s).stimulus = s.stimulus := rfl

/-! ### clearFrame -/

@[simp] theorem clearFrame_running : (clearFrame s).running = s.running := rfl
@[simp] theorem clearFrame_pstate : (clearFrame s).pstate = s.pstate := rfl
@[simp] theorem clearFrame_sequencer : (clearFrame s).sequencer = s.sequencer := rfl
@[simp] theorem clearFrame_inCount : (clearFrame s).inCount = 0 := rfl
@[simp] theorem clearFrame_sentCount : (clearFrame s).sentCount = 0 := rfl
@[simp] theorem clearFrame_expectedLength : (clearFrame s).expectedLength = 0 := rfl
@[simp] theorem clearFrame_frameLen : (clearFrame s).frameLen = 0 := rfl
@[simp] theorem clearFrame_runningChecksum : (clearFrame s).runningChecksum = 0 := rfl
@[simp] theorem clearFrame_frameBuf : (clearFrame s).frameBuf = s.frameBuf := rfl
@[simp] theorem clearFrame_lastFrameEnd : (clearFrame s).lastFrameEnd = s.lastFrameEnd := rfl
@[simp] theorem clearFrame_watchdogDeadline : (clearFrame s).watchdogDeadline = s.watchdogDeadline := rfl
@[simp] theorem clearFrame_errorCounter : (clearFrame s).errorCounter = s.errorCounter := rfl
@[simp] theorem clearFrame_queue : (clearFrame s).queue = s.queue := rfl
@[simp] theorem clearFrame_rxFifo : (clearFrame s).rxFifo = s.rxFifo := rfl
@[simp] theorem clearFrame_lineMode : (clearFrame s).lineMode = s.lineMode := rfl
@[simp] theorem clearFrame_lineLevel : (clearFrame s).lineLevel = s.lineLevel := rfl
@[simp] theorem clearFrame_restartReq : (clearFrame s).restartReq = s.restartReq := rfl
@[simp] theorem clearFrame_tickOrigin : (clearFrame s).tickOrigin = s.tickOrigin := rfl
@[simp] theorem clearFrame_tickCount : (clearFrame s).tickCount = s.tickCount := rfl
@[simp] theorem clearFrame_lastSample : (clearFrame s).lastSample = s.lastSample := rfl
@[simp] theorem clearFrame_initDone : (clearFrame s).initDone = s.initDone := rfl
@[simp] theorem clearFrame_cfg : (clearFrame s).cfg = s.cfg := rfl
@[simp] theorem clearFrame_resultOut : (clearFrame s).resultOut = s.resultOut := rfl
@[simp] theorem clearFrame_popOut : (clearFrame s).popOut = s.popOut := rfl
@[simp] theorem clearFrame_trace : (clearFrame s).trace = s.trace := rfl
@[simp] theorem clearFrame_stimulus : (clearFrame s).stimulus = s.stimulus := rfl

/-! ### beginFrame -/

@[simp] theorem beginFrame_running : (beginFrame s).running = s.running := rfl
@[simp] theorem beginFrame_pstate : (beginFrame s).pstate = s.pstate := rfl
@[simp] theorem beginFrame_sequencer : (beginFrame s).sequencer = s.sequencer := rfl
@[simp] theorem beginFrame_inCount : (beginFrame s).inCount = s.inCount := rfl
@[simp] theorem beginFrame_sentCount : (beginFrame s).sentCount = s.sentCount := rfl
@[simp] theorem beginFrame_expectedLength : (beginFrame s).expectedLength = 0 := rfl
@[simp] theorem beginFrame_frameLen : (beginFrame s).frameLen = 0 := rfl
@[simp] theorem beginFrame_runningChecksum : (beginFrame s).runningChecksum = 0 := rfl
@[simp] theorem beginFrame_frameBuf : (beginFrame s).frameBuf = s.frameBuf := rfl
@[simp] theorem beginFrame_lastFrameEnd : (beginFrame s).lastFrameEnd = s.lastFrameEnd := rfl
@[simp] theorem beginFrame_watchdogDeadline : (beginFrame s).watchdogDeadline = s.watchdogDeadline := rfl
@[simp] theorem beginFrame_errorCounter : (beginFrame s).errorCounter = s.errorCounter := rfl
@[simp] theorem beginFrame_queue : (beginFrame s).queue = s.queue := rfl
@[simp] theorem beginFrame_rxFifo : (beginFrame s).rxFifo = s.rxFifo := rfl
@[simp] theorem beginFrame_lineMode : (beginFrame s).lineMode = s.lineMode := rfl
@[simp] theorem beginFrame_lineLevel : (beginFrame s).lineLevel = s.lineLevel := rfl
@[simp] theorem beginFrame_restartReq : (beginFrame s).restartReq = s.restartReq := rfl
@[simp] theorem beginFrame_tickOrigin : (beginFrame s).tickOrigin = s.tickOrigin := rfl
@[simp] theorem beginFrame_tickCount : (beginFrame s).tickCount = s.tickCount := rfl
@[simp] theorem beginFrame_lastSample : (beginFrame s).lastSample = s.lastSample := rfl
@[simp] theorem beginFrame_initDone : (beginFrame s).initDone = s.initDone := rfl
@[simp] theorem beginFrame_cfg : (beginFrame s).cfg = s.cfg := rfl
@[simp] theorem beginFrame_resultOut : (beginFrame s).resultOut = s.resultOut := rfl
@[simp] theorem beginFrame_popOut : (beginFrame s).popOut = s.popOut := rfl
@[simp] theorem beginFrame_trace : (beginFrame s).trace = s.trace := rfl
@[simp] theorem beginFrame_stimulus : (beginFrame s).stimulus = s.stimulus := rfl

/-! ### setPstate -/

@[simp] theorem setPstate_running (p : PState) : (setPstate p s).running = s.running := rfl
@[simp] theorem setPstate_pstate (p : PState) : (setPstate p s).pstate = p := rfl
@[simp] theorem setPstate_sequencer (p : PState) : (setPstate p s).sequencer = s.sequencer := rfl
@[simp] theorem setPstate_inCount (p : PState) : (setPstate p s).inCount = s.inCount := rfl
@[simp] theorem setPstate_sentCount (p : PState) : (setPstate p s).sentCount = s.sentCount := rfl
@[simp] theorem setPstate_expectedLength (p : PState) : (setPstate p s).expectedLength = s.expectedLength := rfl
@[simp] theorem setPstate_frameLen (p : PState) : (setPstate p s).frameLen = s.frameLen := rfl
@[simp] theorem setPstate_runningChecksum (p : PState) : (setPstate p s).runningChecksum = s.runningChecksum := rfl
@[simp] theorem setPstate_frameBuf (p : PState) : (setPstate p s).frameBuf = s.frameBuf := rfl
@[simp] theorem setPstate_lastFrameEnd (p : PState) : (setPstate p s).lastFrameEnd = s.lastFrameEnd := rfl
@[simp] theorem setPstate_watchdogDeadline (p : PState) : (setPstate p s).watchdogDeadline = s.watchdogDeadline := rfl
@[simp] theorem setPstate_errorCounter (p : PState) : (setPstate p s).errorCounter = s.errorCounter := rfl
@[simp] theorem setPstate_queue (p : PState) : (setPstate p s).queue = s.queue := rfl
@[simp] theorem setPstate_rxFifo (p : PState) : (setPstate p s).rxFifo = s.rxFifo := rfl
@[simp] theorem setPstate_lineMode (p : PState) : (setPstate p s).lineMode = s.lineMode := rfl
@[simp] theorem setPstate_lineLevel (p : PState) : (setPstate p s).lineLevel = s.lineLevel := rfl
@[simp] theorem setPstate_restartReq (p : PState) : (setPstate p s).restartReq = s.restartReq := rfl
@[simp] theorem setPstate_tickOrigin (p : PState) : (setPstate p s).tickOrigin = s.tickOrigin := rfl
@[simp] theorem setPstate_tickCount (p : PState) : (setPstate p s).tickCount = s.tickCount := rfl
@[simp] theorem setPstate_lastSample (p : PState) : (setPstate p s).lastSample = s.lastSample := rfl
@[simp] theorem setPstate_initDone (p : PState) : (setPstate p s).initDone = s.initDone := rfl
@[simp] theorem setPstate_cfg (p : PState) : (setPstate p s).cfg = s.cfg := rfl
@[simp] theorem setPstate_resultOut (p : PState) : (setPstate p s).resultOut = s.resultOut := rfl
@[simp] theorem setPstate_popOut (p : PState) : (setPstate p s).popOut = s.popOut := rfl
@[simp] theorem setPstate_trace (p : PState) : (setPstate p s).trace = s.trace := rfl
@[simp] theorem setPstate_stimulus (p : PState) : (setPstate p s).stimulus = s.stimulus := rfl

/-! ### countTick -/

@[simp] theorem countTick_running (now : Time) : (countTick now s).running = s.running := rfl
@[simp] theorem countTick_pstate (now : Time) : (countTick now s).pstate = s.pstate := rfl
@[simp] theorem countTick_sequencer (now : Time) : (countTick now s).sequencer = s.sequencer := rfl
@[simp] theorem countTick_inCount (now : Time) : (countTick now s).inCount = s.inCount := rfl
@[simp] theorem countTick_sentCount (now : Time) : (countTick now s).sentCount = s.sentCount := rfl
@[simp] theorem countTick_expectedLength (now : Time) : (countTick now s).expectedLength = s.expectedLength := rfl
@[simp] theorem countTick_frameLen (now : Time) : (countTick now s).frameLen = s.frameLen := rfl
@[simp] theorem countTick_runningChecksum (now : Time) : (countTick now s).runningChecksum = s.runningChecksum := rfl
@[simp] theorem countTick_frameBuf (now : Time) : (countTick now s).frameBuf = s.frameBuf := rfl
@[simp] theorem countTick_lastFrameEnd (now : Time) : (countTick now s).lastFrameEnd = s.lastFrameEnd := rfl
@[simp] theorem countTick_watchdogDeadline (now : Time) : (countTick now s).watchdogDeadline = s.watchdogDeadline := rfl
@[simp] theorem countTick_errorCounter (now : Time) : (countTick now s).errorCounter = s.errorCounter := rfl
@[simp] theorem countTick_queue (now : Time) : (countTick now s).queue = s.queue := rfl
@[simp] theorem countTick_rxFifo (now : Time) : (countTick now s).rxFifo = s.rxFifo := rfl
@[simp] theorem countTick_lineMode (now : Time) : (countTick now s).lineMode = s.lineMode := rfl
@[simp] theorem countTick_lineLevel (now : Time) : (countTick now s).lineLevel = s.lineLevel := rfl
@[simp] theorem countTick_restartReq (now : Time) : (countTick now s).restartReq = s.restartReq := rfl
@[simp] theorem countTick_tickOrigin (now : Time) : (countTick now s).tickOrigin = s.tickOrigin := rfl
@[simp] theorem countTick_tickCount (now : Time) : (countTick now s).tickCount = s.tickCount + 1 := rfl
@[simp] theorem countTick_lastSample (now : Time) : (countTick now s).lastSample = now := rfl
@[simp] theorem countTick_initDone (now : Time) : (countTick now s).initDone = s.initDone := rfl
@[simp] theorem countTick_cfg (now : Time) : (countTick now s).cfg = s.cfg := rfl
@[simp] theorem countTick_resultOut (now : Time) : (countTick now s).resultOut = s.resultOut := rfl
@[simp] theorem countTick_popOut (now : Time) : (countTick now s).popOut = s.popOut := rfl
@[simp] theorem countTick_trace (now : Time) : (countTick now s).trace = s.trace := rfl
@[simp] theorem countTick_stimulus (now : Time) : (countTick now s).stimulus = s.stimulus := rfl

/-! ### consume -/

@[simp] theorem consume_running : (consume s).running = s.running := rfl
@[simp] theorem consume_pstate : (consume s).pstate = s.pstate := rfl
@[simp] theorem consume_sequencer : (consume s).sequencer = s.sequencer := rfl
@[simp] theorem consume_inCount : (consume s).inCount = s.inCount := rfl
@[simp] theorem consume_sentCount : (consume s).sentCount = s.sentCount := rfl
@[simp] theorem consume_expectedLength : (consume s).expectedLength = s.expectedLength := rfl
@[simp] theorem consume_frameLen : (consume s).frameLen = s.frameLen := rfl
@[simp] theorem consume_runningChecksum : (consume s).runningChecksum = s.runningChecksum := rfl
@[simp] theorem consume_frameBuf : (consume s).frameBuf = s.frameBuf := rfl
@[simp] theorem consume_lastFrameEnd : (consume s).lastFrameEnd = s.lastFrameEnd := rfl
@[simp] theorem consume_watchdogDeadline : (consume s).watchdogDeadline = s.watchdogDeadline := rfl
@[simp] theorem consume_errorCounter : (consume s).errorCounter = s.errorCounter := rfl
@[simp] theorem consume_queue : (consume s).queue = s.queue := rfl
@[simp] theorem consume_rxFifo : (consume s).rxFifo = s.rxFifo := rfl
@[simp] theorem consume_lineMode : (consume s).lineMode = s.lineMode := rfl
@[simp] theorem consume_lineLevel : (consume s).lineLevel = s.lineLevel := rfl
@[simp] theorem consume_restartReq : (consume s).restartReq = s.restartReq := rfl
@[simp] theorem consume_tickOrigin : (consume s).tickOrigin = s.tickOrigin := rfl
@[simp] theorem consume_tickCount : (consume s).tickCount = s.tickCount := rfl
@[simp] theorem consume_lastSample : (consume s).lastSample = s.lastSample := rfl
@[simp] theorem consume_initDone : (consume s).initDone = s.initDone := rfl
@[simp] theorem consume_cfg : (consume s).cfg = s.cfg := rfl
@[simp] theorem consume_resultOut : (consume s).resultOut = s.resultOut := rfl
@[simp] theorem consume_popOut : (consume s).popOut = s.popOut := rfl
@[simp] theorem consume_trace : (consume s).trace = s.trace := rfl
@[simp] theorem consume_stimulus : (consume s).stimulus = s.stimulus.tail := rfl

/-! ### pushItem -/

@[simp] theorem pushItem_running (it : Item) : (pushItem it s).running = s.running := rfl
@[simp] theorem pushItem_pstate (it : Item) : (pushItem it s).pstate = s.pstate := rfl
@[simp] theorem pushItem_sequencer (it : Item) : (pushItem it s).sequencer = s.sequencer := rfl
@[simp] theorem pushItem_inCount (it : Item) : (pushItem it s).inCount = s.inCount := rfl
@[simp] theorem pushItem_sentCount (it : Item) : (pushItem it s).sentCount = s.sentCount := rfl
@[simp] theorem pushItem_expectedLength (it : Item) : (pushItem it s).expectedLength = s.expectedLength := rfl
@[simp] theorem pushItem_frameLen (it : Item) : (pushItem it s).frameLen = s.frameLen := rfl
@[simp] theorem pushItem_runningChecksum (it : Item) : (pushItem it s).runningChecksum = s.runningChecksum := rfl
@[simp] theorem pushItem_frameBuf (it : Item) : (pushItem it s).frameBuf = s.frameBuf := rfl
@[simp] theorem pushItem_lastFrameEnd (it : Item) : (pushItem it s).lastFrameEnd = s.lastFrameEnd := rfl
@[simp] theorem pushItem_watchdogDeadline (it : Item) : (pushItem it s).watchdogDeadline = s.watchdogDeadline := rfl
@[simp] theorem pushItem_errorCounter (it : Item) : (pushItem it s).errorCounter = s.errorCounter := rfl
@[simp] theorem pushItem_queue (it : Item) : (pushItem it s).queue = s.queue := rfl
@[simp] theorem pushItem_rxFifo (it : Item) : (pushItem it s).rxFifo = s.rxFifo := rfl
@[simp] theorem pushItem_lineMode (it : Item) : (pushItem it s).lineMode = s.lineMode := rfl
@[simp] theorem pushItem_lineLevel (it : Item) : (pushItem it s).lineLevel = s.lineLevel := rfl
@[simp] theorem pushItem_restartReq (it : Item) : (pushItem it s).restartReq = s.restartReq := rfl
@[simp] theorem pushItem_tickOrigin (it : Item) : (pushItem it s).tickOrigin = s.tickOrigin := rfl
@[simp] theorem pushItem_tickCount (it : Item) : (pushItem it s).tickCount = s.tickCount := rfl
@[simp] theorem pushItem_lastSample (it : Item) : (pushItem it s).lastSample = s.lastSample := rfl
@[simp] theorem pushItem_initDone (it : Item) : (pushItem it s).initDone = s.initDone := rfl
@[simp] theorem pushItem_cfg (it : Item) : (pushItem it s).cfg = s.cfg := rfl
@[simp] theorem pushItem_resultOut (it : Item) : (pushItem it s).resultOut = s.resultOut := rfl
@[simp] theorem pushItem_popOut (it : Item) : (pushItem it s).popOut = s.popOut := rfl
@[simp] theorem pushItem_trace (it : Item) : (pushItem it s).trace = s.trace := rfl
@[simp] theorem pushItem_stimulus (it : Item) : (pushItem it s).stimulus = it :: s.stimulus := rfl

end Sys2Proof.Machine
end

