-- ==== Sys2Proof/Laws/Codec.lean ====
section
/-! SUPPORT. The Frame Codec: everything FEED can do, said once, and what it leaves alone. -/

namespace Sys2Proof.Machine

theorem countSucc_some {c n : Count} (h : countSucc c = some n) :
    n = c + 1 ∧ n.toNat = c.toNat + 1 ∧ c.toNat + 1 < 2 ^ 16 := by
  simp only [countSucc] at h
  split at h
  · rename_i hc
    obtain rfl : c + 1 = n := by simpa using h
    refine ⟨rfl, ?_, hc⟩
    have h1 : (1 : Count).toNat = 1 := rfl
    rw [BitVec.toNat_add, h1]
    omega
  · simp at h

theorem countSucc_of_lt {c : Count} (h : c.toNat + 1 < 2 ^ 16) : countSucc c = some (c + 1) := by
  simp only [countSucc, h, if_true]

/-- The state in which FEED treats a genuine byte: counted, and at the first byte of a frame begun anew. -/
def genuineStart (s : State) : State :=
  if s.inCount.toNat + 1 - s.sentCount.toNat = 1 then beginFrame { s with inCount := s.inCount + 1 }
  else { s with inCount := s.inCount + 1 }

/-- The byte's length and sum taken into the state (40_frame_codec.md R125, R128). -/
def summed (s : State) (b : Byte) : State :=
  { genuineStart s with
    expectedLength := if s.inCount.toNat + 1 - s.sentCount.toNat = 4 then b else (genuineStart s).expectedLength,
    runningChecksum := (genuineStart s).runningChecksum + b }

/-- Everything FEED can do: discard an echo; store a genuine byte; sum one that does not fit; or finish a frame. -/
theorem feedByte_cases {s t : State} {b : Byte} {ev : FrameEvent} (h : feedByte b s = .ok (t, ev)) :
    s.inCount.toNat + 1 < 2 ^ 16 ∧
    ((s.inCount.toNat + 1 ≤ s.sentCount.toNat ∧ ev = .more ∧ t = { s with inCount := s.inCount + 1 }) ∨
     (s.sentCount.toNat < s.inCount.toNat + 1 ∧
       ((s.inCount.toNat + 1 - s.sentCount.toNat ≠ (genuineStart s).expectedLength.toNat + 5 ∧ ev = .more ∧
          (((genuineStart s).frameLen.toNat < s.cfg.frameCap ∧ (genuineStart s).frameLen.toNat + 1 < 2 ^ 16 ∧
              t = { summed s b with
                    frameBuf := memWrite s.frameBuf (genuineStart s).frameLen.toNat b,
                    frameLen := (genuineStart s).frameLen + 1 }) ∨
           (s.cfg.frameCap ≤ (genuineStart s).frameLen.toNat ∧ t = emit [.raised (.x8 b)] (summed s b)))) ∨
        (s.inCount.toNat + 1 - s.sentCount.toNat = (genuineStart s).expectedLength.toNat + 5 ∧
          ∃ f, memPrefix s.frameBuf (genuineStart s).frameLen.toNat = some f ∧ t = clearFrame (genuineStart s) ∧
            ev = if b = (genuineStart s).runningChecksum then .frameReady f
              else .checksumError b (genuineStart s).runningChecksum)))) := by
  have hcfg : (genuineStart s).cfg = s.cfg := by simp only [genuineStart]; split <;> rfl
  have hbuf : (genuineStart s).frameBuf = s.frameBuf := by simp only [genuineStart]; split <;> rfl
  simp only [feedByte] at h
  split at h
  · simp at h
  rename_i n hn
  obtain ⟨rfl, hnn, hlt⟩ := countSucc_some hn
  refine ⟨hlt, ?_⟩
  rw [hnn] at h
  split at h
  · rename_i hle
    simp only [Except.ok.injEq, Prod.mk.injEq] at h
    exact .inl ⟨hle, h.2.symm, h.1.symm⟩
  rename_i hgt
  refine .inr ⟨by omega, ?_⟩
  have hg : feedGenuine (s.inCount.toNat + 1 - s.sentCount.toNat) b { s with inCount := s.inCount + 1 } =
      if s.inCount.toNat + 1 - s.sentCount.toNat = (genuineStart s).expectedLength.toNat + 5
      then finishFrame b (genuineStart s)
      else storeByte (s.inCount.toNat + 1 - s.sentCount.toNat) b (genuineStart s) := rfl
  rw [hg] at h
  split at h
  · rename_i hfin
    refine .inr ⟨hfin, ?_⟩
    simp only [finishFrame, frameBytes, hbuf] at h
    split at h
    · simp at h
    · rename_i f hf
      simp only [Except.ok.injEq, Prod.mk.injEq] at h
      exact ⟨f, hf, h.1.symm, h.2.symm⟩
  · rename_i hfin
    have hst : storeByte (s.inCount.toNat + 1 - s.sentCount.toNat) b (genuineStart s) =
        if (genuineStart s).frameLen.toNat < (genuineStart s).cfg.frameCap then
          match countSucc (genuineStart s).frameLen with
          | none => .error .counterOverflow
          | some n => .ok ({ summed s b with
              frameBuf := memWrite (genuineStart s).frameBuf (genuineStart s).frameLen.toNat b, frameLen := n }, .more)
        else .ok (emit [.raised (.x8 b)] (summed s b), .more) := rfl
    rw [hst, hcfg] at h
    split at h
    · rename_i hroom
      split at h
      · simp at h
      · rename_i m hm
        obtain ⟨rfl, -, hml⟩ := countSucc_some hm
        simp only [Except.ok.injEq, Prod.mk.injEq] at h
        rw [hbuf] at h
        exact .inl ⟨hfin, h.2.symm, .inl ⟨hroom, hml, h.1.symm⟩⟩
    · rename_i hroom
      simp only [Except.ok.injEq, Prod.mk.injEq] at h
      exact .inl ⟨hfin, h.2.symm, .inr ⟨by omega, h.1.symm⟩⟩

/-- FEED writes the codec's fields and the trace, and nothing else. -/
theorem feedByte_frame {s t : State} {b : Byte} {ev : FrameEvent} (h : feedByte b s = .ok (t, ev)) :
    t = { s with
          inCount := t.inCount, sentCount := t.sentCount, expectedLength := t.expectedLength, frameLen := t.frameLen,
          runningChecksum := t.runningChecksum, frameBuf := t.frameBuf, trace := t.trace } := by
  have hs : genuineStart s = { s with
      inCount := (genuineStart s).inCount, expectedLength := (genuineStart s).expectedLength,
      frameLen := (genuineStart s).frameLen, runningChecksum := (genuineStart s).runningChecksum } := by
    simp only [genuineStart]; split <;> rfl
  obtain ⟨-, ⟨-, -, rfl⟩ | ⟨-, ⟨-, -, ⟨-, -, rfl⟩ | ⟨-, rfl⟩⟩ | ⟨-, f, -, rfl, -⟩⟩⟩ := feedByte_cases h
  · rfl
  · rw [summed, hs]
  · rw [summed, hs]; rfl
  · rw [hs]; rfl

/-- FEED adds at most an X8 to the trace. -/
theorem feedByte_trace {s t : State} {b : Byte} {ev : FrameEvent} (h : feedByte b s = .ok (t, ev)) :
    t.trace = s.trace ∨ t.trace = s.trace ++ [.raised (.x8 b)] := by
  have hs : (genuineStart s).trace = s.trace := by simp only [genuineStart]; split <;> rfl
  obtain ⟨-, ⟨-, -, rfl⟩ | ⟨-, ⟨-, -, ⟨-, -, rfl⟩ | ⟨-, rfl⟩⟩ | ⟨-, f, -, rfl, -⟩⟩⟩ := feedByte_cases h
  · exact .inl rfl
  · exact .inl hs
  · exact .inr (by simp [summed, hs])
  · exact .inl hs

/-- FEED changes no byte of the frame buffer but the one at `frame_len`, or at 0 when a frame begins. -/
theorem feedByte_memRead {s t : State} {b : Byte} {ev : FrameEvent} (h : feedByte b s = .ok (t, ev)) (a : Nat)
    (ha : a ≠ (genuineStart s).frameLen.toNat) : memRead t.frameBuf a = memRead s.frameBuf a := by
  have hs : (genuineStart s).frameBuf = s.frameBuf := by simp only [genuineStart]; split <;> rfl
  obtain ⟨-, ⟨-, -, rfl⟩ | ⟨-, ⟨-, -, ⟨-, -, rfl⟩ | ⟨-, rfl⟩⟩ | ⟨-, f, -, rfl, -⟩⟩⟩ := feedByte_cases h
  · rfl
  · exact memRead_memWrite_other _ _ _ _ ha
  · simp [summed, hs]
  · exact congrArg (memRead · a) hs

end Sys2Proof.Machine
end

