-- ==== Sys2Proof/Laws/Control.lean ====
section
/-! SUPPORT. START and STOP: everything they can do, said once; the dispatcher's decode. -/

namespace Sys2Proof.Machine

/-- A sample of `now` that is not refused. -/
theorem sampleRefusal_none {now : Time} {s : State} :
    sampleRefusal now s = none ↔ s.lastSample.toNat ≤ now.toNat ∧ now.toNat + s.cfg.t3Us < 2 ^ 64 := by
  simp only [sampleRefusal, belowEarlierSample, timeFits, decide_eq_true_eq]
  split
  · simp; omega
  · split <;> simp <;> omega

/-- The session reset of a START is the one Safety writes from 43_tick_scheduler.md R222. -/
theorem sessionReset_sampled (now : Time) (s : State) :
    sessionReset now (sampleTime now s) = Safety.resetSession now s := by
  simp only [sessionReset, deadlineFrom, clearLatch, flushRx, setLineLevel, setLineMode, clearFrame, sampleTime]
  rfl

/-- A START at a sample below an earlier one. -/
theorem startBlock_below {now : Time} {s : State} (l d : Bool) (h : now.toNat < s.lastSample.toNat) :
    startBlock now l d s = .error .timeNotMonotonic := by
  simp [startBlock, belowEarlierSample, h]

/-- A START at any other sample: the cases of 43_tick_scheduler.md R222, R224, R225. -/
theorem startBlock_sampled {now : Time} {s : State} (l d : Bool) (h : s.lastSample.toNat ≤ now.toNat) :
    startBlock now l d s =
      if s.running then .ok (sampleTime now s, .ok)
      else if l then
        if now.toNat + s.cfg.t3Us < 2 ^ 64 then
          if d then .ok ({ sessionReset now (sampleTime now s) with
            running := true, sequencer := .idle none, tickOrigin := now, tickCount := 0 }, .ok)
          else .ok (raise .x6 (flushRx (setLineMode .off (sessionReset now (sampleTime now s)))), .errTimer)
        else .error .timeOutOfRange
      else .ok (raise .x5 (sampleTime now s), .errLink) := by
  have h' : ¬now.toNat < s.lastSample.toNat := by omega
  simp only [startBlock, belowEarlierSample, timeFits, h', decide_false, Bool.false_eq_true, if_false, decide_eq_true_eq]

/-- Everything START can do, always at a sample no smaller than the earlier ones: nothing but the sample while running, a start,
or one of the two failures. -/
theorem startBlock_cases {now : Time} {l d : Bool} {s t : State} {c : ResultCode}
    (h : startBlock now l d s = .ok (t, c)) : s.lastSample.toNat ≤ now.toNat ∧
    ((s.running = true ∧ c = .ok ∧ t = sampleTime now s) ∨
    (s.running = false ∧ l = false ∧ c = .errLink ∧ t = raise .x5 (sampleTime now s)) ∨
    (s.running = false ∧ l = true ∧ now.toNat + s.cfg.t3Us < 2 ^ 64 ∧
      ((d = true ∧ c = .ok ∧ t = { sessionReset now (sampleTime now s) with
          running := true, sequencer := .idle none, tickOrigin := now, tickCount := 0 }) ∨
       (d = false ∧ c = .errTimer ∧ t = raise .x6 (flushRx (setLineMode .off (sessionReset now (sampleTime now s)))))))) := by
  by_cases hb : now.toNat < s.lastSample.toNat
  · rw [startBlock_below l d hb] at h
    simp at h
  · rw [startBlock_sampled l d (by omega)] at h
    refine ⟨by omega, ?_⟩
    split at h
    · simp only [Except.ok.injEq, Prod.mk.injEq] at h
      exact .inl ⟨‹_›, h.2.symm, h.1.symm⟩
    · have hr : s.running = false := by simpa using ‹¬s.running = true›
      split at h
      · split at h
        · refine .inr (.inr ⟨hr, ‹_›, ‹_›, ?_⟩)
          split at h <;> simp only [Except.ok.injEq, Prod.mk.injEq] at h
          · exact .inl ⟨‹_›, h.2.symm, h.1.symm⟩
          · exact .inr ⟨by simpa using ‹¬d = true›, h.2.symm, h.1.symm⟩
        · simp at h
      · simp only [Except.ok.injEq, Prod.mk.injEq] at h
        exact .inr (.inl ⟨hr, by simpa using ‹¬l = true›, h.2.symm, h.1.symm⟩)

/-- Everything STOP can do. -/
theorem stopBlock_cases (d l : Bool) (s : State) :
    (s.running = false ∧ stopBlock d l s = (s, .ok)) ∨
    (s.running = true ∧ d = false ∧ stopBlock d l s = (raise .x6 s, .errTimer)) ∨
    (s.running = true ∧ d = true ∧ l = true ∧
      stopBlock d l s = (flushRx (setLineMode .off { s with running := false }), .ok)) ∨
    (s.running = true ∧ d = true ∧ l = false ∧
      stopBlock d l s = (raise .x5 (flushRx (setLineMode .off { s with running := false })), .errLink)) := by
  cases hr : s.running <;> cases d <;> cases l <;> simp [stopBlock, hr]

/-- What selects each action of the dispatcher. -/
theorem payloadAction_start {p : List Byte} : payloadAction p = .start ↔ p = [0x01] ∨ p = [0x67] := by
  match p with
  | [] => simp [payloadAction]
  | [b] =>
    simp only [payloadAction, List.cons.injEq, and_true]
    split
    · simpa using ‹_›
    · split
      · simp_all
      · split <;> simp_all
  | _ :: _ :: _ => simp [payloadAction]

end Sys2Proof.Machine
end

