-- ==== Sys2Proof/Laws/Decode.lean ====
section
/-! SUPPORT. The readers of Decode.lean on the bytes their encoders write, and what a reader can answer. -/

namespace Sys2Proof

@[simp] theorem give_apply {α : Type} (a : α) (bs : List Byte) : give a bs = .ok (a, bs) := rfl

@[simp] theorem reject_apply {α : Type} (e : DecodeError) (bs : List Byte) : (reject e : Parser α) bs = .error e := rfl

@[simp] theorem takeByte_cons (b : Byte) (bs : List Byte) : takeByte (b :: bs) = .ok (b, bs) := rfl

theorem andThen_of_ok {α β : Type} {p : Parser α} {k : α → Parser β} {bs rest : List Byte} {a : α}
    (h : p bs = .ok (a, rest)) : andThen p k bs = k a rest := by
  simp [andThen, h]

@[simp] theorem andThen_takeByte_cons {β : Type} (k : Byte → Parser β) (b : Byte) (bs : List Byte) :
    andThen takeByte k (b :: bs) = k b bs := rfl

/-- What two readers in a row answer comes from an answer of each. -/
theorem andThen_ok {α β : Type} {p : Parser α} {k : α → Parser β} {bs : List Byte} {r : β × List Byte}
    (h : andThen p k bs = .ok r) : ∃ a rest, p bs = .ok (a, rest) ∧ k a rest = .ok r := by
  simp only [andThen] at h
  split at h
  · simp at h
  · exact ⟨_, _, ‹_›, h⟩

theorem takeDraw_drawByte (d : Bool) (bs : List Byte) : takeDraw (drawByte d :: bs) = .ok (d, bs) := by
  cases d <;> rfl

@[simp] theorem andThen_takeDraw_drawByte {β : Type} (k : Bool → Parser β) (d : Bool) (bs : List Byte) :
    andThen takeDraw k (drawByte d :: bs) = k d bs := andThen_of_ok (takeDraw_drawByte d bs)

theorem takeTime_timeBytes (t : Time) (bs : List Byte) : takeTime (timeBytes t ++ bs) = .ok (t, bs) := by
  simp only [timeBytes, List.cons_append, List.nil_append, takeTime, BitVec.toNat_ofNat]
  congr 2
  apply BitVec.eq_of_toNat_eq
  have := t.isLt
  simp only [BitVec.toNat_ofNat]
  omega

@[simp] theorem andThen_takeTime_timeBytes {β : Type} (k : Time → Parser β) (t : Time) (bs : List Byte) :
    andThen takeTime k (timeBytes t ++ bs) = k t bs := andThen_of_ok (takeTime_timeBytes t bs)

@[simp] theorem andThen_takeTime_timeBytes_nil {β : Type} (k : Time → Parser β) (t : Time) :
    andThen takeTime k (timeBytes t) = k t [] := by
  simpa using andThen_takeTime_timeBytes k t []

theorem takeSeq_seqBytes (p bs : List Byte) : takeSeq (seqBytes p ++ bs) = .ok (p, bs) := by
  induction p with
  | nil => cases bs <;> simp [seqBytes, takeSeq]
  | cons b p ih => simp [seqBytes, takeSeq, ih]

@[simp] theorem andThen_takeSeq_seqBytes {β : Type} (k : List Byte → Parser β) (p bs : List Byte) :
    andThen takeSeq k (seqBytes p ++ bs) = k p bs := andThen_of_ok (takeSeq_seqBytes p bs)

@[simp] theorem andThen_takeSeq_seqBytes_nil {β : Type} (k : List Byte → Parser β) (p : List Byte) :
    andThen takeSeq k (seqBytes p) = k p [] := by
  simpa using andThen_takeSeq_seqBytes k p []

theorem takeStatus_statusByte (st : Status) (bs : List Byte) : takeStatus (statusByte st :: bs) = .ok (st, bs) := by
  cases st <;> rfl

@[simp] theorem andThen_takeStatus_statusByte {β : Type} (k : Status → Parser β) (st : Status) (bs : List Byte) :
    andThen takeStatus k (statusByte st :: bs) = k st bs := andThen_of_ok (takeStatus_statusByte st bs)

theorem takeBytes_append (p bs : List Byte) : takeBytes p.length (p ++ bs) = .ok (p, bs) := by
  induction p with
  | nil => rfl
  | cons b p ih => simp [takeBytes, andThen_of_ok ih]

/-- What `takeBytes n` answers: the first `n` bytes. -/
theorem takeBytes_ok {n : Nat} {bs p rest : List Byte} (h : takeBytes n bs = .ok (p, rest)) :
    p.length = n ∧ bs = p ++ rest := by
  induction n generalizing bs p rest with
  | zero => simp [takeBytes] at h; simp [h.1.symm, h.2]
  | succ n ih =>
    obtain ⟨b, r1, h1, h2⟩ := andThen_ok h
    obtain ⟨q, r2, h3, h4⟩ := andThen_ok h2
    obtain ⟨hq, rfl⟩ := ih h3
    simp only [give_apply, Except.ok.injEq, Prod.mk.injEq] at h4
    obtain ⟨rfl, rfl⟩ := h4
    cases bs with
    | nil => simp [takeByte] at h1
    | cons c cs => simp at h1; simp [h1, hq]

/-- Whatever the reader answers has the property. -/
def Yields (P : Instr → Prop) (p : Parser Instr) : Prop := ∀ bs i rest, p bs = .ok (i, rest) → P i

theorem yields_give {P : Instr → Prop} {i : Instr} (h : P i) : Yields P (give i) := by
  intro bs j rest hj
  simp only [give_apply, Except.ok.injEq, Prod.mk.injEq] at hj
  exact hj.1 ▸ h

theorem yields_reject {P : Instr → Prop} (e : DecodeError) : Yields P (reject e) := by
  intro bs j rest hj
  simp at hj

theorem yields_andThen {P : Instr → Prop} {α : Type} {p : Parser α} {k : α → Parser Instr}
    (h : ∀ a, Yields P (k a)) : Yields P (andThen p k) := by
  intro bs i rest hi
  obtain ⟨a, r, -, hk⟩ := andThen_ok hi
  exact h a _ _ _ hk

/-- As `yields_andThen`, with what the first reader answered. -/
theorem yields_andThen_of {P : Instr → Prop} {α : Type} {p : Parser α} {k : α → Parser Instr}
    (h : ∀ bs a rest, p bs = .ok (a, rest) → Yields P (k a)) : Yields P (andThen p k) := by
  intro bs i rest hi
  obtain ⟨a, r, hp, hk⟩ := andThen_ok hi
  exact h _ _ _ hp _ _ _ hk

@[simp] theorem recordBytes_length (kind : Byte) (p : List Byte) (h : p.length ≤ 68) : (recordBytes kind p).length = 70 := by
  simp [recordBytes]; omega

/-- A record of known length is read whole. -/
theorem takeBytes_of_length (r bs : List Byte) (h : r.length = 70) : takeBytes 70 (r ++ bs) = .ok (r, bs) := by
  rw [← h]; exact takeBytes_append r bs

end Sys2Proof
end

