-- ==== Sys2Proof/Laws/FastInit.lean ====
section
/-! SUPPORT. The Fast-Init Sequencer: everything SEQ_STEP can do, said once. -/

namespace Sys2Proof.Machine

/-- The start time of a call, as Safety writes it from 41_fast_init.md R150. -/
theorem latchedStart_eq (now : Time) (s : State) : latchedStart now s = Safety.sequenceStart now s := by
  cases h : s.sequencer <;> simp only [latchedStart, Safety.sequenceStart, h]

/-- Everything SEQ_STEP can do: stay in progress at one of the two levels before `T1 + 2·T2`, or be done from then on. -/
theorem sequencerStep_cases (now : Time) (s : State) :
    (elapsedBefore now (latchedStart now s) (s.cfg.t1Us + 2 * s.cfg.t2Us) = true ∧
      ∃ l, sequencerStep now s = (setLineLevel l (latchStart now s), .inProgress)) ∨
    (elapsedBefore now (latchedStart now s) (s.cfg.t1Us + 2 * s.cfg.t2Us) = false ∧
      sequencerStep now s = (clearLatch (setLineLevel .high (latchStart now s)), .done)) := by
  simp only [sequencerStep, elapsedBefore, decide_eq_true_eq, decide_eq_false_iff_not]
  split
  · exact .inl ⟨by omega, .high, rfl⟩
  · split
    · exact .inl ⟨by omega, .low, rfl⟩
    · split
      · exact .inl ⟨by omega, .high, rfl⟩
      · exact .inr ⟨by omega, rfl⟩

/-- SEQ_STEP by the window its elapsed time lies in (41_fast_init.md R151), in the states Safety writes. -/
theorem sequencerStep_windows (now : Time) (s : State) :
    sequencerStep now s =
      if now.toNat < (Safety.sequenceStart now s).toNat + s.cfg.t1Us then (Safety.sequencing now .high s, .inProgress)
      else if now.toNat < (Safety.sequenceStart now s).toNat + (s.cfg.t1Us + s.cfg.t2Us) then
        (Safety.sequencing now .low s, .inProgress)
      else if now.toNat < (Safety.sequenceStart now s).toNat + (s.cfg.t1Us + 2 * s.cfg.t2Us) then
        (Safety.sequencing now .high s, .inProgress)
      else (Safety.sequenceDone now s, .done) := by
  simp only [sequencerStep, elapsedBefore, decide_eq_true_eq, latchStart, latchedStart_eq]
  rfl

end Sys2Proof.Machine
end

