-- ==== Sys2Proof/Laws/Fsm.lean ====
section
/-! SUPPORT. The Protocol State Machine: what the state entries leave alone, everything a drained byte, the drain, a
transmission step, the two checks and a tick can do, each said once; and the induction over a drain, packaged. -/

namespace Sys2Proof.Machine

/-! ### Offers and state entries -/

/-- The status record's trace entries end an offer; nothing else but the queue changes. -/
theorem offer_frame (rec : Record) (s : State) :
    offer rec s = { s with queue := (offer rec s).queue, trace := s.trace ++ offerTrace rec s } := rfl

theorem toInit_frame (now : Time) (s : State) :
    toInit now s = { s with
      inCount := 0, sentCount := 0, expectedLength := 0, frameLen := 0, runningChecksum := 0, errorCounter := 0,
      lastFrameEnd := now, watchdogDeadline := deadlineFrom now s, sequencer := .idle s.fastinitStart, lineMode := .pulse,
      lineLevel := .high, pstate := .init, queue := (toInit now s).queue, trace := (toInit now s).trace } := rfl

theorem toStartSession_frame (now : Time) (s : State) :
    toStartSession now s = { s with
      inCount := 0, sentCount := 0, expectedLength := 0, frameLen := 0, runningChecksum := 0, errorCounter := 0,
      watchdogDeadline := deadlineFrom now s, pstate := .startSession, queue := (toStartSession now s).queue,
      trace := (toStartSession now s).trace } := rfl

theorem toActive_frame (now : Time) (s : State) :
    toActive now s = { s with
      errorCounter := 0, pstate := .active, queue := (toActive now s).queue, trace := (toActive now s).trace } := rfl

theorem fastInitDone_frame (now : Time) (s : State) :
    fastInitDone now s = { s with
      rxFifo := [], lineMode := .uart, lineLevel := .high, inCount := 0, sentCount := 0, expectedLength := 0,
      frameLen := 0, runningChecksum := 0, errorCounter := 0, watchdogDeadline := deadlineFrom now s,
      pstate := .startSession, queue := (fastInitDone now s).queue, trace := (fastInitDone now s).trace } := rfl

/-! ### The receive drain -/

/-- Everything the drain can do with an event of the codec. -/
theorem onFrameEvent_cases (now : Time) (ev : FrameEvent) (s : State) :
    (ev = .more ∧ onFrameEvent now ev s = s) ∨
    (∃ f, ev = .frameReady f ∧
      ((s.pstate = .startSession ∧ onFrameEvent now ev s = toActive now { s with lastFrameEnd := now }) ∨
       (s.pstate ≠ .startSession ∧
         onFrameEvent now ev s = offer (frameRecord s.cfg f) { s with lastFrameEnd := now, errorCounter := 0 }))) ∨
    (∃ r c, ev = .checksumError r c ∧
      ((s.pstate = .startSession ∧
         onFrameEvent now ev s = toInit now { raise (.x1 r c) s with lastFrameEnd := now }) ∨
       (s.pstate ≠ .startSession ∧
         onFrameEvent now ev s =
           { raise (.x1 r c) s with lastFrameEnd := now, errorCounter := saturatingSucc s.errorCounter }))) := by
  cases ev with
  | more => exact .inl ⟨rfl, rfl⟩
  | frameReady f =>
    refine .inr (.inl ⟨f, rfl, ?_⟩)
    by_cases h : s.pstate = .startSession
    · exact .inl ⟨h, by simp only [onFrameEvent, h, if_true]⟩
    · exact .inr ⟨h, by simp only [onFrameEvent, h, if_false]; rfl⟩
  | checksumError r c =>
    refine .inr (.inr ⟨r, c, rfl, ?_⟩)
    by_cases h : s.pstate = .startSession
    · exact .inl ⟨h, by simp only [onFrameEvent, h, if_true]⟩
    · exact .inr ⟨h, by simp only [onFrameEvent, h, if_false]⟩

/-- A drained byte is fed, then its event is acted on. -/
theorem drainByte_cases {now : Time} {b : Byte} {rest : List Byte} {s t : State} (h : drainByte now b rest s = .ok t) :
    ∃ u ev, feedByte b { s with rxFifo := rest, watchdogDeadline := deadlineFrom now s } = .ok (u, ev) ∧
      t = onFrameEvent now ev u := by
  simp only [drainByte] at h
  split at h
  · simp at h
  · rename_i u ev hf
    exact ⟨u, ev, hf, by simpa using h.symm⟩

/-- Acting on an event leaves the receive FIFO alone. -/
@[simp] theorem onFrameEvent_rxFifo (now : Time) (ev : FrameEvent) (s : State) :
    (onFrameEvent now ev s).rxFifo = s.rxFifo := by
  obtain ⟨-, h⟩ | ⟨f, -, ⟨-, h⟩ | ⟨-, h⟩⟩ | ⟨r, c, -, ⟨-, h⟩ | ⟨-, h⟩⟩ := onFrameEvent_cases now ev s <;> rw [h] <;> rfl

/-- A drained byte leaves the rest of the FIFO. -/
theorem drainByte_rxFifo {now : Time} {b : Byte} {rest : List Byte} {s t : State} (h : drainByte now b rest s = .ok t) :
    t.rxFifo = rest := by
  obtain ⟨u, ev, hf, rfl⟩ := drainByte_cases h
  rw [onFrameEvent_rxFifo, feedByte_frame hf]

/-- The induction over a drain: what every byte drained in the protocol state `p` keeps, the drain keeps. -/
theorem drainLoop_keeps {P : State → Prop} {now : Time} {p : PState}
    (hstep : ∀ b rest s t, P s → s.pstate = p → s.rxFifo = b :: rest → drainByte now b rest s = .ok t → P t)
    {bs : List Byte} {s t : State} (hbs : s.rxFifo = bs) (hp : s.pstate = p) (hs : P s)
    (h : drainLoop now bs s = .ok t) : P t := by
  induction bs generalizing s with
  | nil => simp only [drainLoop, Except.ok.injEq] at h; exact h ▸ hs
  | cons b rest ih =>
    simp only [drainLoop] at h
    split at h
    · simp at h
    · rename_i u hu
      split at h
      · rename_i he
        exact ih (drainByte_rxFifo hu) (he.trans hp) (hstep b rest s u hs hp hbs hu) h
      · simp only [Except.ok.injEq] at h
        exact h ▸ hstep b rest s u hs hp hbs hu

theorem drain_keeps {P : State → Prop} {now : Time} {s t : State}
    (hstep : ∀ b rest u v, P u → u.pstate = s.pstate → u.rxFifo = b :: rest → drainByte now b rest u = .ok v → P v)
    (hs : P s) (h : drain now s = .ok t) : P t := drainLoop_keeps hstep rfl rfl hs h

/-- A drain completes where every drained byte does. -/
theorem drainLoop_ok {P : State → Prop} {now : Time} {p : PState}
    (hstep : ∀ b rest s, P s → s.pstate = p → s.rxFifo = b :: rest → ∃ t, drainByte now b rest s = .ok t ∧ P t)
    {bs : List Byte} {s : State} (hbs : s.rxFifo = bs) (hp : s.pstate = p) (hs : P s) :
    ∃ t, drainLoop now bs s = .ok t ∧ P t := by
  induction bs generalizing s with
  | nil => exact ⟨s, rfl, hs⟩
  | cons b rest ih =>
    obtain ⟨u, hu, hk⟩ := hstep b rest s hs hp hbs
    simp only [drainLoop, hu]
    split
    · rename_i he
      exact ih (drainByte_rxFifo hu) (he.trans hp) hk
    · exact ⟨u, rfl, hk⟩

/-- What a drain leaves in the FIFO: nothing unless the protocol state changed, and always an end of what was there. -/
theorem drainLoop_rxFifo {now : Time} {bs : List Byte} {s t : State} (hbs : s.rxFifo = bs)
    (h : drainLoop now bs s = .ok t) : (t.pstate = s.pstate → t.rxFifo = []) ∧ ∃ taken, bs = taken ++ t.rxFifo := by
  induction bs generalizing s with
  | nil =>
    simp only [drainLoop, Except.ok.injEq] at h
    subst h
    exact ⟨fun _ => hbs, [], by simp [hbs]⟩
  | cons b rest ih =>
    simp only [drainLoop] at h
    split at h
    · simp at h
    · rename_i u hu
      split at h
      · rename_i he
        obtain ⟨h1, taken, h2⟩ := ih (drainByte_rxFifo hu) h
        exact ⟨fun hp => h1 (hp.trans he.symm), b :: taken, by rw [List.cons_append, ← h2]⟩
      · rename_i he
        simp only [Except.ok.injEq] at h
        subst h
        exact ⟨fun hp => absurd hp he, [b], by rw [drainByte_rxFifo hu]; rfl⟩

/-! ### Transmission and the two checks -/

/-- Everything a transmission step can do. -/
theorem transmit_cases (now : Time) (s : State) :
    transmit now s = s ∨
    (s.sentCount.toNat < (commandOf s.pstate).length ∧ quietOver now s = true ∧
      ∃ n, n = chunkLength s.cfg.txChunk ((commandOf s.pstate).length - s.sentCount.toNat) ∧
        transmit now s = { txBytes (((commandOf s.pstate).drop s.sentCount.toNat).take n) s with
          sentCount := BitVec.ofNat 16 (s.sentCount.toNat + n) }) := by
  by_cases h1 : (commandOf s.pstate).length ≤ s.sentCount.toNat
  · exact .inl (by simp only [transmit, h1, if_true])
  · by_cases h2 : quietOver now s = true
    · exact .inr ⟨by omega, h2, _, rfl, by simp only [transmit, h1, h2, if_true, if_false]⟩
    · exact .inl (by simp only [transmit, h1, h2, if_false]; rfl)

theorem commandOf_length (p : PState) : (commandOf p).length ≤ 7 := by
  simp only [commandOf]; split <;> simp [startSessionCommand, readSensorsCommand]

theorem chunkLength_le (c : TxChunk) (n : Nat) : chunkLength c n ≤ n := by
  cases c <;> simp [chunkLength]

/-- A transmission step writes `sent_count` and the trace, and nothing else. -/
theorem transmit_frame (now : Time) (s : State) :
    transmit now s = { s with sentCount := (transmit now s).sentCount, trace := (transmit now s).trace } := by
  obtain h | ⟨-, -, n, -, h⟩ := transmit_cases now s
  · rw [h]
  · rw [h]; rfl

/-- Everything the threshold check can do. -/
theorem checkThreshold_cases (now : Time) (s : State) :
    (s.cfg.errThreshold ≤ s.errorCounter.toNat ∧
      checkThreshold now s = (toStartSession now { s with lastFrameEnd := now }, true)) ∨
    (s.errorCounter.toNat < s.cfg.errThreshold ∧ checkThreshold now s = (s, false)) := by
  by_cases h : s.cfg.errThreshold ≤ s.errorCounter.toNat
  · exact .inl ⟨h, by simp [checkThreshold, thresholdReached, h]⟩
  · exact .inr ⟨by omega, by simp [checkThreshold, thresholdReached, h]⟩

/-- Everything the watchdog check can answer. -/
theorem checkWatchdog_cases {now : Time} {s t : State} {r : Bool} (h : checkWatchdog now s = .ok (t, r)) :
    (now.toNat ≤ s.watchdogDeadline.toNat ∧ r = false ∧ t = s) ∨
    (s.watchdogDeadline.toNat < now.toNat ∧ r = true ∧
      ((s.pstate = .startSession ∧ t = toInit now { raise (.x2 now s.watchdogDeadline) s with lastFrameEnd := now }) ∨
       (s.pstate = .active ∧
         t = toStartSession now { raise (.x2 now s.watchdogDeadline) s with lastFrameEnd := now }))) := by
  simp only [checkWatchdog, watchdogExpired, decide_eq_true_eq] at h
  split at h
  · rename_i hw
    refine .inr ⟨hw, ?_⟩
    split at h <;> simp only [Except.ok.injEq, Prod.mk.injEq, reduceCtorEq] at h
    · exact ⟨h.2.symm, .inl ⟨‹_›, h.1.symm⟩⟩
    · exact ⟨h.2.symm, .inr ⟨‹_›, h.1.symm⟩⟩
  · simp only [Except.ok.injEq, Prod.mk.injEq] at h
    exact .inl ⟨by omega, h.2.symm, h.1.symm⟩

/-! ### The tick -/

/-- Everything the session tick can do after the threshold check. -/
theorem sessionBody_cases {now : Time} {s t : State} (h : sessionBody now s = .ok t) :
    (s.rxFifo = [] ∧ (checkWatchdog now s = .ok (t, true) ∨ ∃ u, checkWatchdog now s = .ok (u, false) ∧ t = transmit now u)) ∨
    (s.rxFifo ≠ [] ∧ ∃ u, drain now s = .ok u ∧
      ((u.pstate = s.pstate ∧ t = transmit now u) ∨ (u.pstate ≠ s.pstate ∧ t = u))) := by
  simp only [sessionBody] at h
  split at h
  · rename_i he
    refine .inl ⟨he, ?_⟩
    split at h
    · simp at h
    · rename_i u hu
      simp only [Except.ok.injEq] at h
      exact .inl (h ▸ hu)
    · rename_i u hu
      simp only [Except.ok.injEq] at h
      exact .inr ⟨u, hu, h.symm⟩
  · rename_i he
    refine .inr ⟨he, ?_⟩
    split at h
    · simp at h
    · rename_i u hu
      split at h <;> simp only [Except.ok.injEq] at h
      · exact ⟨u, hu, .inl ⟨‹_›, h.symm⟩⟩
      · exact ⟨u, hu, .inr ⟨‹_›, h.symm⟩⟩

/-- Everything the session tick can do. -/
theorem tickInSession_cases {now : Time} {s t : State} (h : tickInSession now s = .ok t) :
    (s.pstate = .active ∧ s.cfg.errThreshold ≤ s.errorCounter.toNat ∧
      t = toStartSession now { s with lastFrameEnd := now }) ∨
    ((s.pstate = .active → s.errorCounter.toNat < s.cfg.errThreshold) ∧ sessionBody now s = .ok t) := by
  simp only [tickInSession] at h
  split at h
  · rename_i ha
    obtain ⟨hc, he⟩ | ⟨hc, he⟩ := checkThreshold_cases now s <;> rw [he] at h
    · simp only [Except.ok.injEq] at h
      exact .inl ⟨ha, hc, h.symm⟩
    · exact .inr ⟨fun _ => hc, h⟩
  · exact .inr ⟨fun ha => absurd ha ‹_›, h⟩

/-- Everything a tick can do. -/
theorem tick_cases {now : Time} {s t : State} (h : tick now s = .ok t) :
    (s.pstate = .init ∧ ∃ u ev, sequencerStep now s = (u, ev) ∧ t = onSequencerEvent now ev u) ∨
    ((s.pstate = .startSession ∨ s.pstate = .active) ∧ tickInSession now s = .ok t) ∨
    (s.pstate = .illegal ∧ t = toInit now (raise (.x3 .illegal) s)) := by
  simp only [tick] at h
  split at h
  · rename_i hp
    refine .inl ⟨hp, ?_⟩
    simp only [Except.ok.injEq] at h
    exact ⟨_, _, rfl, h.symm⟩
  · exact .inr (.inl ⟨.inl ‹_›, h⟩)
  · exact .inr (.inl ⟨.inr ‹_›, h⟩)
  · rename_i hp
    simp only [Except.ok.injEq, tickInIllegal, hp] at h
    exact .inr (.inr ⟨hp, h.symm⟩)

/-- Everything an EV_TICK that completes did. -/
theorem execEvTick_cases {now : Time} {s t : State} (h : execEvTick now s = .next t) :
    s.running = true ∧ nominalTime s ≤ now.toNat ∧ sampleRefusal now s = none ∧ tick now (countTick now s) = .ok t := by
  simp only [execEvTick] at h
  split at h
  · rename_i hr
    split at h
    · simp at h
    · rename_i hn
      split at h
      · simp at h
      · rename_i hs
        refine ⟨hr, by omega, hs, ?_⟩
        simp only [outcomeOf] at h
        split at h
        · simp only [Host.Outcome.next.injEq] at h
          exact h ▸ ‹_›
        · simp at h
  · simp at h

/-- Everything a micro-operation guarded by its deadline did. -/
theorem withDeadline_cases {now : Time} {s t : State} {r : Except Fault State} (h : withDeadline now s r = .next t) :
    now.toNat + s.cfg.t3Us < 2 ^ 64 ∧ r = .ok t := by
  simp only [withDeadline, timeFits, decide_eq_true_eq] at h
  split at h
  · rename_i hf
    refine ⟨hf, ?_⟩
    cases r <;> simp_all [outcomeOf]
  · simp at h

end Sys2Proof.Machine
end

