-- ==== Sys2Proof/Laws/Ops.lean ====
section
/-! SUPPORT. The shared operations of Ops.lean: everything an offer and a delivered byte can do, which records are well formed,
and what a legal configuration is. -/

namespace Sys2Proof.Machine

/-- A legal configuration (00_scope.md R10), as a conjunction. -/
theorem configLegal_iff (c : Config) : configLegal c = true ↔
    1 ≤ c.tickPeriodUs ∧ 1 ≤ c.errThreshold ∧ c.errThreshold ≤ 255 ∧ c.queueCap ≠ 0 ∧ 100 ≤ c.frameCap ∧
      c.msgPayloadMax + 2 = c.msgRecordBytes ∧ c.msgPayloadMax ≤ 255 ∧ c.rxFifoCap ≠ 0 ∧
      c.t1Us < 2 ^ 62 ∧ c.t2Us < 2 ^ 62 ∧ c.t3Us < 2 ^ 62 ∧ c.t4Us < 2 ^ 62 := by
  simp [configLegal, and_assoc]

/-- The machine's check is Safety's `LegalConfig`. -/
theorem configLegal_iff_legalConfig {c : Config} : configLegal c = true ↔ Safety.LegalConfig c := by
  rw [configLegal_iff]
  constructor
  · rintro ⟨h1, h2, h3, h4, h5, h6, h7, h8, h9, h10, h11, h12⟩
    exact ⟨h1, h2, h3, by omega, h5, h6, h7, by omega, h9, h10, h11, h12⟩
  · rintro ⟨h1, h2, h3, h4, h5, h6, h7, h8, h9, h10, h11, h12⟩
    exact ⟨h1, h2, h3, by omega, h5, h6, h7, by omega, h9, h10, h11, h12⟩

/-- Everything an offer can do. -/
theorem offer_cases (rec : Record) (s : State) :
    (s.queue.length = s.cfg.queueCap ∧
      offer rec s = emit [.offered rec false, .raised (.x4 (rec.getD 0 0) (rec.getD 1 0))] s) ∨
    (s.queue.length ≠ s.cfg.queueCap ∧
      offer rec s = { s with queue := s.queue ++ [rec], trace := s.trace ++ [.offered rec true] }) := by
  by_cases h : s.queue.length = s.cfg.queueCap
  · have hf : queueFull s = true := by simp [queueFull, h]
    exact .inl ⟨h, by simp only [offer, offerTrace, hf, if_true]; rfl⟩
  · have hf : queueFull s = false := by simp [queueFull, h]
    exact .inr ⟨h, by simp only [offer, offerTrace, hf]; rfl⟩

/-- Everything a delivered byte can do. -/
theorem rxArrive_cases (b : Byte) (s : State) :
    (s.lineMode = .off ∧ rxArrive b s = s) ∨
    (s.lineMode ≠ .off ∧ s.rxFifo.length = s.cfg.rxFifoCap ∧ rxArrive b s = emit [.raised (.x7 b)] s) ∨
    (s.lineMode ≠ .off ∧ s.rxFifo.length ≠ s.cfg.rxFifoCap ∧ rxArrive b s = { s with rxFifo := s.rxFifo ++ [b] }) := by
  by_cases h : s.lineMode = .off
  · have h1 : arrivalFifo b s = s.rxFifo := by simp [arrivalFifo, h]
    have h2 : arrivalTrace b s = [] := by simp [arrivalTrace, h]
    exact .inl ⟨h, by simp only [rxArrive, h1, h2, List.append_nil]⟩
  · by_cases hf : s.rxFifo.length = s.cfg.rxFifoCap
    · exact .inr (.inl ⟨h, hf, by simp only [rxArrive, arrivalFifo, arrivalTrace, h, hf, if_true, if_false]; rfl⟩)
    · exact .inr (.inr ⟨h, hf, by simp only [rxArrive, arrivalFifo, arrivalTrace, h, hf, if_false, List.append_nil]⟩)

/-- The status records and the data record, as Safety writes them. -/
theorem statusRecord_init (c : Config) : statusRecord c .init = Safety.textRecord c Safety.initText := rfl
theorem statusRecord_startSession (c : Config) :
    statusRecord c .startSession = Safety.textRecord c Safety.startSessionText := rfl
theorem statusRecord_active (c : Config) : statusRecord c .active = Safety.textRecord c Safety.activeText := rfl
theorem frameRecord_eq (c : Config) (f : List Byte) :
    frameRecord c f = Safety.recordOf c 0x01 (f.take c.msgPayloadMax) := rfl

/-- A status payload fits its record, whatever the configuration. -/
theorem statusPayload_length (c : Config) (text : List Byte) : (statusPayload c text).length ≤ c.msgPayloadMax := by
  simp only [statusPayload]
  split
  · assumption
  · simp

/-- A record of kind Data or Text whose payload fits is one the block may build. -/
theorem recordWf_mkRecord {c : Config} {kind : Byte} {p : List Byte} (hk : kind = 0x01 ∨ kind = 0x02)
    (hp : p.length ≤ c.msgPayloadMax) (hm : c.msgPayloadMax ≤ 255) (hr : c.msgPayloadMax + 2 = c.msgRecordBytes) :
    recordWf c (mkRecord c kind p) = true := by
  have hl : p.length % 256 = p.length := Nat.mod_eq_of_lt (by omega)
  simp only [recordWf, mkRecord, List.getD_cons_zero, List.getD_cons_succ, BitVec.toNat_ofNat, hl, Bool.and_eq_true,
    List.length_cons, List.length_append, List.length_replicate, beq_iff_eq, decide_eq_true_eq, Bool.or_eq_true,
    List.all_eq_true]
  refine ⟨⟨⟨⟨by omega, hk⟩, by omega⟩, by omega⟩, ?_⟩
  rw [show 2 + p.length = (p.length + 1) + 1 by omega]
  simp only [List.drop_succ_cons, List.drop_left]
  exact fun x hx => (List.mem_replicate.1 hx).2

/-- Under the bounds of 00_scope.md R10 every status record is one of 30_encoding.md R85, of `MSG_RECORD_BYTES` bytes. -/
theorem recordWf_statusRecord {c : Config} (hm : c.msgPayloadMax ≤ 255) (hr : c.msgPayloadMax + 2 = c.msgRecordBytes)
    (st : Status) : recordWf c (statusRecord c st) = true :=
  recordWf_mkRecord (.inr rfl) (statusPayload_length ..) hm hr

/-- Under the bounds of 00_scope.md R10 so is every data record of a frame. -/
theorem recordWf_frameRecord {c : Config} (hm : c.msgPayloadMax ≤ 255) (hr : c.msgPayloadMax + 2 = c.msgRecordBytes)
    (f : List Byte) : recordWf c (frameRecord c f) = true :=
  recordWf_mkRecord (.inl rfl) (by simp) hm hr

end Sys2Proof.Machine
end

