-- ==== Sys2Proof/Laws/PerInstr.lean ====
section
/-! SUPPORT. Every instruction's encoding lies under its row of spec/opcode_table.json: the row's format and the row's fixed leading
bytes (its `match` value). -/

namespace Sys2Proof.Laws

/-- The format and the fixed leading bytes of each row, transcribed from the table's columns `format` and `match`. -/
def tableRow (i : Instr) : Format × List Byte :=
  match i with
  | .evInit => (.event4, [0x00])
  | .evStart _ _ _ => (.event4, [0x01])
  | .evStop _ _ => (.event4, [0x02])
  | .evTick _ => (.event4, [0x03])
  | .evRxByte _ => (.event4, [0x04])
  | .evPop => (.event4, [0x05])
  | .evPayload _ _ _ _ _ _ => (.event4, [0x06])
  | .evConnected => (.event4, [0x07])
  | .evDisconnected => (.event4, [0x08])
  | .evReserved9 => (.event4, [0x09])
  | .evReservedA => (.event4, [0x0A])
  | .evReservedB => (.event4, [0x0B])
  | .evReservedC => (.event4, [0x0C])
  | .evReservedD => (.event4, [0x0D])
  | .evReservedE => (.event4, [0x0E])
  | .evReservedF => (.event4, [0x0F])
  | .feed _ => (.uop5, [0x00])
  | .eofReset => (.uop5, [0x01])
  | .seqStep _ => (.uop5, [0x02])
  | .tickInit _ => (.uop5, [0x03])
  | .tickSession _ => (.uop5, [0x04])
  | .tickIllegal _ => (.uop5, [0x05])
  | .thresholdCheck _ => (.uop5, [0x06])
  | .rxDrain _ => (.uop5, [0x07])
  | .txStep _ => (.uop5, [0x08])
  | .watchdogCheck _ => (.uop5, [0x09])
  | .enterInit _ => (.uop5, [0x0A])
  | .enterStartSession _ => (.uop5, [0x0B])
  | .enterActive _ => (.uop5, [0x0C])
  | .enqueue _ => (.uop5, [0x0D])
  | .emitStatus _ => (.uop5, [0x0E])
  | .emitFrame _ => (.uop5, [0x0F])
  | .txWrite _ => (.uop5, [0x10])
  | .rxFlush => (.uop5, [0x11])
  | .ctrl01 _ _ _ => (.payload1, [0x01])
  | .ctrl67 _ _ _ => (.payload1, [0x67])
  | .ctrl00 _ _ => (.payload1, [0x00])
  | .ctrl73 _ _ => (.payload1, [0x73])
  | .ctrlFF _ _ => (.payload1, [0xFF])
  | .ctrl72 _ _ => (.payload1, [0x72])
  | .ctrlOther _ => (.payload, [])
  | .cmdStartSession => (.klineCmd, [0x81, 0x12, 0xF1, 0x81, 0x05])
  | .cmdReadSensors => (.klineCmd, [0x80, 0x12, 0xF1, 0x02, 0x21, 0x08, 0xAE])
  | .respFrame _ _ _ _ _ => (.klineResp, [])
  | .recData _ => (.record70, [0x01])
  | .recText _ => (.record70, [0x02])
  | .recOtherKind _ => (.record70, [])
  | .statusInit => (.record70, [0x02, 0x04, 0x69, 0x6E, 0x69, 0x74])
  | .statusStartSession => (.record70, [0x02, 0x0D, 0x73, 0x74, 0x61, 0x72, 0x74, 0x5F, 0x73, 0x65, 0x73, 0x73, 0x69, 0x6F, 0x6E])
  | .statusActive => (.record70, [0x02, 0x06, 0x61, 0x63, 0x74, 0x69, 0x76, 0x65])
  | .pstateInit => (.pstate2, [0x00])
  | .pstateStartSession => (.pstate2, [0x01])
  | .pstateActive => (.pstate2, [0x02])
  | .pstateIllegal => (.pstate2, [0x03])
  | .lineOff => (.lineMode2, [0x00])
  | .linePulse => (.lineMode2, [0x01])
  | .lineUart => (.lineMode2, [0x02])
  | .lineMode3 => (.lineMode2, [0x03])
  | .resOk => (.result, [0x00])
  | .resErrLink => (.result, [0x01])
  | .resErrTimer => (.result, [0x02])
  | .feContinue => (.frameEvent, [0x00])
  | .feFrameReady _ _ => (.frameEvent, [0x01])
  | .feChecksumError _ _ _ => (.frameEvent, [0x02])
  | .seInProgress => (.sequencerEvent, [0x00])
  | .seDone _ => (.sequencerEvent, [0x01])

/-- The encoding has the row's format and begins with the row's fixed bytes. -/
def EncodesUnderItsRow.Statement (i : Instr) : Prop :=
  (encode i).fmt = (tableRow i).1 ∧ (tableRow i).2 <+: (encode i).bytes

namespace EncodesUnderItsRow

theorem evInit : Statement .evInit := ⟨rfl, _, rfl⟩
theorem evStart (now : Time) (linkInitOk timerStartOk : Bool) : Statement (.evStart now linkInitOk timerStartOk) := ⟨rfl, _, rfl⟩
theorem evStop (timerStopOk linkDeinitOk : Bool) : Statement (.evStop timerStopOk linkDeinitOk) := ⟨rfl, _, rfl⟩
theorem evTick (now : Time) : Statement (.evTick now) := ⟨rfl, _, rfl⟩
theorem evRxByte (b : Byte) : Statement (.evRxByte b) := ⟨rfl, _, rfl⟩
theorem evPop : Statement .evPop := ⟨rfl, _, rfl⟩
theorem evPayload (p : List Byte) (now : Time) (linkInitOk timerStartOk timerStopOk linkDeinitOk : Bool) : Statement (.evPayload p now linkInitOk timerStartOk timerStopOk linkDeinitOk) := ⟨rfl, _, rfl⟩
theorem evConnected : Statement .evConnected := ⟨rfl, _, rfl⟩
theorem evDisconnected : Statement .evDisconnected := ⟨rfl, _, rfl⟩
theorem evReserved9 : Statement .evReserved9 := ⟨rfl, _, rfl⟩
theorem evReservedA : Statement .evReservedA := ⟨rfl, _, rfl⟩
theorem evReservedB : Statement .evReservedB := ⟨rfl, _, rfl⟩
theorem evReservedC : Statement .evReservedC := ⟨rfl, _, rfl⟩
theorem evReservedD : Statement .evReservedD := ⟨rfl, _, rfl⟩
theorem evReservedE : Statement .evReservedE := ⟨rfl, _, rfl⟩
theorem evReservedF : Statement .evReservedF := ⟨rfl, _, rfl⟩
theorem feed (b : Byte) : Statement (.feed b) := ⟨rfl, _, rfl⟩
theorem eofReset : Statement .eofReset := ⟨rfl, _, rfl⟩
theorem seqStep (now : Time) : Statement (.seqStep now) := ⟨rfl, _, rfl⟩
theorem tickInit (now : Time) : Statement (.tickInit now) := ⟨rfl, _, rfl⟩
theorem tickSession (now : Time) : Statement (.tickSession now) := ⟨rfl, _, rfl⟩
theorem tickIllegal (now : Time) : Statement (.tickIllegal now) := ⟨rfl, _, rfl⟩
theorem thresholdCheck (now : Time) : Statement (.thresholdCheck now) := ⟨rfl, _, rfl⟩
theorem rxDrain (now : Time) : Statement (.rxDrain now) := ⟨rfl, _, rfl⟩
theorem txStep (now : Time) : Statement (.txStep now) := ⟨rfl, _, rfl⟩
theorem watchdogCheck (now : Time) : Statement (.watchdogCheck now) := ⟨rfl, _, rfl⟩
theorem enterInit (now : Time) : Statement (.enterInit now) := ⟨rfl, _, rfl⟩
theorem enterStartSession (now : Time) : Statement (.enterStartSession now) := ⟨rfl, _, rfl⟩
theorem enterActive (now : Time) : Statement (.enterActive now) := ⟨rfl, _, rfl⟩
theorem enqueue (rec : Record) : Statement (.enqueue rec) := ⟨rfl, _, rfl⟩
theorem emitStatus (st : Status) : Statement (.emitStatus st) := ⟨rfl, _, rfl⟩
theorem emitFrame (f : List Byte) : Statement (.emitFrame f) := ⟨rfl, _, rfl⟩
theorem txWrite (b : Byte) : Statement (.txWrite b) := ⟨rfl, _, rfl⟩
theorem rxFlush : Statement .rxFlush := ⟨rfl, _, rfl⟩
theorem ctrl01 (now : Time) (linkInitOk timerStartOk : Bool) : Statement (.ctrl01 now linkInitOk timerStartOk) := ⟨rfl, _, rfl⟩
theorem ctrl67 (now : Time) (linkInitOk timerStartOk : Bool) : Statement (.ctrl67 now linkInitOk timerStartOk) := ⟨rfl, _, rfl⟩
theorem ctrl00 (timerStopOk linkDeinitOk : Bool) : Statement (.ctrl00 timerStopOk linkDeinitOk) := ⟨rfl, _, rfl⟩
theorem ctrl73 (timerStopOk linkDeinitOk : Bool) : Statement (.ctrl73 timerStopOk linkDeinitOk) := ⟨rfl, _, rfl⟩
theorem ctrlFF (timerStopOk linkDeinitOk : Bool) : Statement (.ctrlFF timerStopOk linkDeinitOk) := ⟨rfl, _, rfl⟩
theorem ctrl72 (timerStopOk linkDeinitOk : Bool) : Statement (.ctrl72 timerStopOk linkDeinitOk) := ⟨rfl, _, rfl⟩
theorem ctrlOther (p : List Byte) : Statement (.ctrlOther p) := ⟨rfl, _, rfl⟩
theorem cmdStartSession : Statement .cmdStartSession := ⟨rfl, _, rfl⟩
theorem cmdReadSensors : Statement .cmdReadSensors := ⟨rfl, _, rfl⟩
theorem respFrame (h0 h1 h2 : Byte) (payload : List Byte) (checksum : Byte) : Statement (.respFrame h0 h1 h2 payload checksum) := ⟨rfl, _, rfl⟩
theorem recData (payload : List Byte) : Statement (.recData payload) := ⟨rfl, _, rfl⟩
theorem recText (payload : List Byte) : Statement (.recText payload) := ⟨rfl, _, rfl⟩
theorem recOtherKind (rec : Record) : Statement (.recOtherKind rec) := ⟨rfl, _, rfl⟩
theorem statusInit : Statement .statusInit := ⟨rfl, _, rfl⟩
theorem statusStartSession : Statement .statusStartSession := ⟨rfl, _, rfl⟩
theorem statusActive : Statement .statusActive := ⟨rfl, _, rfl⟩
theorem pstateInit : Statement .pstateInit := ⟨rfl, _, rfl⟩
theorem pstateStartSession : Statement .pstateStartSession := ⟨rfl, _, rfl⟩
theorem pstateActive : Statement .pstateActive := ⟨rfl, _, rfl⟩
theorem pstateIllegal : Statement .pstateIllegal := ⟨rfl, _, rfl⟩
theorem lineOff : Statement .lineOff := ⟨rfl, _, rfl⟩
theorem linePulse : Statement .linePulse := ⟨rfl, _, rfl⟩
theorem lineUart : Statement .lineUart := ⟨rfl, _, rfl⟩
theorem lineMode3 : Statement .lineMode3 := ⟨rfl, _, rfl⟩
theorem resOk : Statement .resOk := ⟨rfl, _, rfl⟩
theorem resErrLink : Statement .resErrLink := ⟨rfl, _, rfl⟩
theorem resErrTimer : Statement .resErrTimer := ⟨rfl, _, rfl⟩
theorem feContinue : Statement .feContinue := ⟨rfl, _, rfl⟩
theorem feFrameReady (now : Time) (f : List Byte) : Statement (.feFrameReady now f) := ⟨rfl, _, rfl⟩
theorem feChecksumError (now : Time) (received computed : Byte) : Statement (.feChecksumError now received computed) := ⟨rfl, _, rfl⟩
theorem seInProgress : Statement .seInProgress := ⟨rfl, _, rfl⟩
theorem seDone (now : Time) : Statement (.seDone now) := ⟨rfl, _, rfl⟩

end EncodesUnderItsRow

end Sys2Proof.Laws
end

