-- ==== Sys2Proof/Laws/Step.lean ====
section
/-! SUPPORT. The step: everything it can do, said once. -/

namespace Sys2Proof.Machine

/-- A step that answers a next state ran the instruction of the first stimulus, in a legal configuration, after INIT or as
INIT. -/
theorem step_cases {s t : State} (h : step s = .next t) :
    ∃ it rest i, s.stimulus = it :: rest ∧ decodeItem it = .ok i ∧ configLegal s.cfg = true ∧
      (s.initDone = true ∨ i = .evInit) ∧ exec i { s with stimulus := rest } = .next t := by
  cases hs : s.stimulus with
  | nil => simp [step, fetch, hs] at h
  | cons it rest =>
    cases hd : decodeItem it with
    | error e => simp [step, fetch, hs, hd] at h
    | ok i =>
      simp only [step, fetch, hs, hd, bootRefusal, consume, List.tail_cons] at h
      cases hc : configLegal s.cfg with
      | false => simp [hc] at h
      | true =>
        simp only [hc, if_true] at h
        split at h
        · simp at h
        · rename_i hb
          refine ⟨it, rest, i, rfl, hd, rfl, ?_, h⟩
          split at hb
          · rename_i ho
            simpa using ho
          · simp at hb

/-- A step of a state whose first stimulus is an instruction, once the boot order holds. -/
theorem step_of_fetch {s : State} {it : Item} {rest : List Item} {i : Instr} (hs : s.stimulus = it :: rest)
    (hd : decodeItem it = .ok i) (hb : bootRefusal i s = none) : step s = exec i { s with stimulus := rest } := by
  simp [step, fetch, hs, hd, hb, consume]

end Sys2Proof.Machine
end

