-- ==== Sys2Proof/Machine/Script.lean ====
section
/-! DEFINITION. The stimulus script of 30_encoding.md R96 to R98: its lines, the pseudo-events' expansions, the text encoding of
an event, and a run of a script. It is notation for test programs; no step of the machine uses it. -/

namespace Sys2Proof.Machine

/-- A line of a stimulus script (30_encoding.md R96, R97). A draw is `true` for `ok`. -/
inductive ScriptLine where
  | cfg (c : Config)
  | init
  | start (t : Time) (link timer : Bool)
  | stop (timer link : Bool)
  | tick (t : Time)
  | rx (bs : List Byte)
  | pop
  /-- `PAYLOAD`, its time if it gives one, and the draws of the START or STOP it selects. -/
  | payload (p : List Byte) (t : Option Time) (link timer : Bool)
  | connected
  | disconnected
  | ticks (a b : Time)
  | echo
  | rxFrame (bs : List Byte)
  | rxBad (bs : List Byte)
  | popAll
  deriving DecidableEq, Repr

/-- What a script needs beside the block's state: the transmitted bytes that an earlier `ECHO` (or `INIT`) has taken, and the
script's last time. -/
structure ScriptState where
  machine : State
  echoed : Nat
  lastTime : Time
  deriving DecidableEq, Repr

/-- The mod-256 sum of the bytes (30_encoding.md R81, R97; 40_frame_codec.md R128). -/
def checksumOf (bs : List Byte) : Byte := bs.foldl (· + ·) 0

/-- `TICK @A, TICK @A+P, …`, the last at most `B` (30_encoding.md R97). -/
def tickTimes (a b : Time) (period : Nat) : List Time :=
  if a.toNat ≤ b.toNat then
    (List.range ((b.toNat - a.toNat) / period + 1)).map fun k => BitVec.ofNat 64 (a.toNat + k * period)
  else []

/-- The events of a line (30_encoding.md R96, R97). -/
def expandLine (x : ScriptState) (l : ScriptLine) : List Instr :=
  match l with
  | .cfg _ => []
  | .init => [.evInit]
  | .start t link timer => [.evStart t link timer]
  | .stop timer link => [.evStop timer link]
  | .tick t => [.evTick t]
  | .rx bs => bs.map .evRxByte
  | .pop => [.evPop]
  | .payload p t link timer => [.evPayload p (t.getD x.lastTime) link timer timer link]
  | .connected => [.evConnected]
  | .disconnected => [.evDisconnected]
  | .ticks a b => (tickTimes a b x.machine.cfg.tickPeriodUs).map .evTick
  | .echo => ((transmitted x.machine).drop x.echoed).map .evRxByte
  | .rxFrame bs => (bs ++ [checksumOf bs]).map .evRxByte
  | .rxBad bs => (bs ++ [checksumOf bs + 1]).map .evRxByte
  | .popAll => List.replicate x.machine.queue.length .evPop

/-- The time a line leaves as the script's last. -/
def lineTime (x : ScriptState) (l : ScriptLine) : Time :=
  match l with
  | .start t _ _ => t
  | .tick t => t
  | .payload _ t _ _ => t.getD x.lastTime
  | .ticks a b => (tickTimes a b x.machine.cfg.tickPeriodUs).getLastD x.lastTime
  | _ => x.lastTime

/-- The transmitted bytes taken after a line: all of them at `ECHO` and at `INIT`. -/
def lineEchoed (x : ScriptState) (l : ScriptLine) : Nat :=
  match l with
  | .echo => (transmitted x.machine).length
  | .init => (transmitted x.machine).length
  | _ => x.echoed

/-- `CFG` sets the parameters, and INIT must follow (70_reset_and_hazards.md R324). -/
def applyConfig (l : ScriptLine) (s : State) : State :=
  match l with
  | .cfg c => { s with cfg := c, initDone := false }
  | _ => s

/-- Take the events as steps, one after the other. -/
def runEvents : List Instr → State → Outcome
  | [], s => .next s
  | i :: is, s =>
    match step (pushItem (encode i) s) with
    | .next t => runEvents is t
    | .fault f => .fault f
    | .refused r => .refused r

/-- Run a script line by line. -/
def runScript : List ScriptLine → ScriptState → Host.Outcome ScriptState Fault Refusal
  | [], x => .next x
  | l :: ls, x =>
    match runEvents (expandLine x l) (applyConfig l x.machine) with
    | .next t => runScript ls { machine := t, echoed := lineEchoed x l, lastTime := lineTime x l }
    | .fault f => .fault f
    | .refused r => .refused r

/-! ### The text encoding of an event (30_encoding.md R98) -/

/-- A hexadecimal digit. -/
def hexDigit (n : Nat) : String := (["0", "1", "2", "3", "4", "5", "6", "7", "8", "9", "A", "B", "C", "D", "E", "F"]).getD n "?"

/-- A byte as two hexadecimal digits. -/
def hexByte (b : Byte) : String := hexDigit (b.toNat / 16) ++ hexDigit (b.toNat % 16)

/-- A draw as `ok` or `fail`. -/
def drawText (d : Bool) : String := if d then "ok" else "fail"

/-- The bytes of a payload, each after a space. -/
def payloadText (p : List Byte) : String := p.foldl (fun acc b => acc ++ " " ++ hexByte b) ""

/-- The arguments a payload's action reads (30_encoding.md R93, R98). -/
def payloadArguments (a : PayloadAction) (linkInitOk timerStartOk timerStopOk linkDeinitOk : Bool) : String :=
  match a with
  | .start => " link=" ++ drawText linkInitOk ++ " timer=" ++ drawText timerStartOk
  | .stop => " timer=" ++ drawText timerStopOk ++ " link=" ++ drawText linkDeinitOk
  | .restart => " timer=" ++ drawText timerStopOk ++ " link=" ++ drawText linkDeinitOk
  | .ignore => ""

/-- The encoding of an event as a script writes it; a row that is no event has none. -/
def eventText (i : Instr) : Option String :=
  match i with
  | .evInit => some "0x0"
  | .evStart now l t =>
    some ("0x1 now=" ++ toString now.toNat ++ " link=" ++ drawText l ++ " timer=" ++ drawText t)
  | .evStop t l => some ("0x2 timer=" ++ drawText t ++ " link=" ++ drawText l)
  | .evTick now => some ("0x3 now=" ++ toString now.toNat)
  | .evRxByte b => some ("0x4 " ++ hexByte b)
  | .evPop => some "0x5"
  | .evPayload p now li ts tp ld =>
    some ("0x6" ++ payloadText p ++ " now=" ++ toString now.toNat ++ payloadArguments (payloadAction p) li ts tp ld)
  | .evConnected => some "0x7"
  | .evDisconnected => some "0x8"
  | _ => none

end Sys2Proof.Machine
end

