-- ==== Sys2Proof/Tests/Slice0.lean ====
section
/-! SUPPORT. The model's own tests: the WellFormed smoke, every row's decoding from bytes written out by hand from 30_encoding.md,
one or two steps per instruction with the results that 95_test_vectors.md gives, and for each statement with hypotheses a state
and operands that meet them all. -/

namespace Sys2Proof.Tests

open Sys2Proof.Machine Sys2Proof.Safety

/-! ### Helpers -/

/-- `CFG-R` of 95_test_vectors.md, with a receive FIFO of 16 bytes. -/
def cfgR : Config :=
  { Config.default with t1Us := 10000, t2Us := 2000, t3Us := 5000, t4Us := 2000, rxFifoCap := 16, baud := 10400 }

/-- Right after INIT under `CFG-R`. -/
def base : State := { State.reset with cfg := cfgR }

/-- A running session in this protocol state, line in UART, last frame end 17000, watchdog at 22000, 18 ticks delivered. -/
def session (p : PState) : State :=
  { base with
    running := true, pstate := p, lineMode := .uart, sequencer := .idle (some 1000), lastFrameEnd := 17000,
    watchdogDeadline := 22000, tickCount := 18, lastSample := 18000 }

/-- An Active session in the middle of a frame, with a byte waiting and a record queued. -/
def busy : State :=
  { session .active with
    sentCount := 7, inCount := 9, frameLen := 2, frameBuf := [(0, 0x80), (1, 0xF1)], runningChecksum := 0x71,
    queue := [frameRecord cfgR [0x80, 0xF1, 0x12, 0x00]], rxFifo := [0x12], errorCounter := 4 }

/-- A field of the next state, `none` on a fault or a refusal. -/
def got {α : Type} (f : State → α) (o : Outcome) : Option α :=
  match o with
  | .next s => some (f s)
  | _ => none

/-- The refusal of an outcome. -/
def refusalOf (o : Outcome) : Option Refusal :=
  match o with
  | .refused r => some r
  | _ => none

/-- The fault of an outcome. -/
def faultOf (o : Outcome) : Option Fault :=
  match o with
  | .fault f => some f
  | _ => none

/-- The state with one item as its next stimulus. -/
def withItem (it : Item) (s : State) : State := { s with stimulus := [it] }

/-- What an item decodes to, `none` where it is rejected. -/
def decoded (f : Format) (bs : List Byte) : Option Instr :=
  match decodeItem ⟨f, bs⟩ with
  | .ok i => some i
  | .error _ => none

/-! ### WellFormed: each check refuses an ill-formed term -/

theorem test_wf_ctrlOther : (Instr.ctrlOther [0x73]).wf = false := by decide
theorem test_wf_respFrame : (Instr.respFrame 0 0 0 (List.replicate 256 0) 0).wf = false := by decide +kernel
theorem test_wf_recData : (Instr.recData (List.replicate 69 0)).wf = false := by decide
theorem test_wf_recText_length : (Instr.recText (List.replicate 69 0)).wf = false := by decide
theorem test_wf_recText_status : (Instr.recText [0x69, 0x6E, 0x69, 0x74]).wf = false := by decide
theorem test_wf_recOtherKind : (Instr.recOtherKind (0x01 :: 0x00 :: List.replicate 68 0)).wf = false := by decide

/-! ### Decoding, from the codes of 30_encoding.md (R80 to R94) and 10_state.md (R23, R36); operand bytes by log 3 -/

theorem test_decode_events :
    decoded .event4 [0x00] = some .evInit ∧
    decoded .event4 [0x01, 0xE8, 0x03, 0, 0, 0, 0, 0, 0, 0, 1] = some (.evStart 1000 true false) ∧
    decoded .event4 [0x02, 0, 1] = some (.evStop true false) ∧
    decoded .event4 [0x03, 0, 0, 0, 0, 0, 0, 0, 0x80] = some (.evTick 0x8000000000000000) ∧
    decoded .event4 [0x04, 0x81] = some (.evRxByte 0x81) ∧
    decoded .event4 [0x05] = some .evPop ∧
    decoded .event4 [0x06, 1, 0x67, 0, 0x64, 0, 0, 0, 0, 0, 0, 0, 0, 1, 1, 0] =
      some (.evPayload [0x67] 100 true false false true) ∧
    decoded .event4 [0x07] = some .evConnected ∧ decoded .event4 [0x08] = some .evDisconnected := by decide

theorem test_decode_reservedEvents :
    decoded .event4 [0x09] = some .evReserved9 ∧ decoded .event4 [0x0A] = some .evReservedA ∧
    decoded .event4 [0x0B] = some .evReservedB ∧ decoded .event4 [0x0C] = some .evReservedC ∧
    decoded .event4 [0x0D] = some .evReservedD ∧ decoded .event4 [0x0E] = some .evReservedE ∧
    decoded .event4 [0x0F] = some .evReservedF := by decide

theorem test_decode_microOperations :
    decoded .uop5 [0x00, 0x83] = some (.feed 0x83) ∧ decoded .uop5 [0x01] = some .eofReset ∧
    decoded .uop5 [0x02, 1, 0, 0, 0, 0, 0, 0, 0] = some (.seqStep 1) ∧
    decoded .uop5 [0x03, 0, 1, 0, 0, 0, 0, 0, 0] = some (.tickInit 256) ∧
    decoded .uop5 [0x04, 2, 0, 0, 0, 0, 0, 0, 0] = some (.tickSession 2) ∧
    decoded .uop5 [0x05, 3, 0, 0, 0, 0, 0, 0, 0] = some (.tickIllegal 3) ∧
    decoded .uop5 [0x06, 4, 0, 0, 0, 0, 0, 0, 0] = some (.thresholdCheck 4) ∧
    decoded .uop5 [0x07, 5, 0, 0, 0, 0, 0, 0, 0] = some (.rxDrain 5) ∧
    decoded .uop5 [0x08, 6, 0, 0, 0, 0, 0, 0, 0] = some (.txStep 6) ∧
    decoded .uop5 [0x09, 7, 0, 0, 0, 0, 0, 0, 0] = some (.watchdogCheck 7) ∧
    decoded .uop5 [0x0A, 8, 0, 0, 0, 0, 0, 0, 0] = some (.enterInit 8) ∧
    decoded .uop5 [0x0B, 9, 0, 0, 0, 0, 0, 0, 0] = some (.enterStartSession 9) ∧
    decoded .uop5 [0x0C, 10, 0, 0, 0, 0, 0, 0, 0] = some (.enterActive 10) ∧
    decoded .uop5 [0x0D, 1, 0x02, 1, 0x00, 0] = some (.enqueue [0x02, 0x00]) ∧
    decoded .uop5 [0x0E, 0x02] = some (.emitStatus .active) ∧
    decoded .uop5 [0x0F, 1, 0x80, 1, 0xF1, 0] = some (.emitFrame [0x80, 0xF1]) ∧
    decoded .uop5 [0x10, 0xAE] = some (.txWrite 0xAE) ∧ decoded .uop5 [0x11] = some .rxFlush := by decide

theorem test_decode_payloads :
    decoded .payload1 [0x01, 0x64, 0, 0, 0, 0, 0, 0, 0, 0, 1] = some (.ctrl01 100 true false) ∧
    decoded .payload1 [0x67, 0x64, 0, 0, 0, 0, 0, 0, 0, 1, 0] = some (.ctrl67 100 false true) ∧
    decoded .payload1 [0x00, 1, 0] = some (.ctrl00 false true) ∧
    decoded .payload1 [0x73, 0, 1] = some (.ctrl73 true false) ∧
    decoded .payload1 [0xFF, 0, 0] = some (.ctrlFF true true) ∧
    decoded .payload1 [0x72, 1, 1] = some (.ctrl72 false false) ∧
    decoded .payload [1, 0x01, 1, 0x00, 0] = some (.ctrlOther [0x01, 0x00]) := by decide

theorem test_decode_frames :
    decoded .klineCmd [0x81, 0x12, 0xF1, 0x81, 0x05] = some .cmdStartSession ∧
    decoded .klineCmd [0x80, 0x12, 0xF1, 0x02, 0x21, 0x08, 0xAE] = some .cmdReadSensors ∧
    decoded .klineResp [0x80, 0xF1, 0x12, 0x02, 0x61, 0x08, 0xEE] =
      some (.respFrame 0x80 0xF1 0x12 [0x61, 0x08] 0xEE) := by decide

theorem test_decode_records :
    decoded .record70 ([0x01, 0x02, 0xAA, 0x00] ++ List.replicate 66 0) = some (.recData [0xAA, 0x00]) ∧
    decoded .record70 ([0x02, 0x01, 0x41] ++ List.replicate 67 0) = some (.recText [0x41]) ∧
    decoded .record70 ([0x03, 0x00] ++ List.replicate 68 0) =
      some (.recOtherKind ([0x03, 0x00] ++ List.replicate 68 0)) := by decide

theorem test_decode_statusRecords :
    decoded .record70 ([0x02, 0x04, 0x69, 0x6E, 0x69, 0x74] ++ List.replicate 64 0) = some .statusInit ∧
    decoded .record70 ([0x02, 0x0D, 0x73, 0x74, 0x61, 0x72, 0x74, 0x5F, 0x73, 0x65, 0x73, 0x73, 0x69, 0x6F, 0x6E] ++
      List.replicate 55 0) = some .statusStartSession ∧
    decoded .record70 ([0x02, 0x06, 0x61, 0x63, 0x74, 0x69, 0x76, 0x65] ++ List.replicate 62 0) =
      some .statusActive := by decide

theorem test_decode_values :
    decoded .pstate2 [0] = some .pstateInit ∧ decoded .pstate2 [1] = some .pstateStartSession ∧
    decoded .pstate2 [2] = some .pstateActive ∧ decoded .pstate2 [3] = some .pstateIllegal ∧
    decoded .lineMode2 [0] = some .lineOff ∧ decoded .lineMode2 [1] = some .linePulse ∧
    decoded .lineMode2 [2] = some .lineUart ∧ decoded .lineMode2 [3] = some .lineMode3 ∧
    decoded .result [0] = some .resOk ∧ decoded .result [1] = some .resErrLink ∧
    decoded .result [2] = some .resErrTimer := by decide

theorem test_decode_returnValues :
    decoded .frameEvent [0] = some .feContinue ∧
    decoded .frameEvent [1, 9, 0, 0, 0, 0, 0, 0, 0, 1, 0x80, 0] = some (.feFrameReady 9 [0x80]) ∧
    decoded .frameEvent [2, 9, 0, 0, 0, 0, 0, 0, 0, 0x84, 0x83] = some (.feChecksumError 9 0x84 0x83) ∧
    decoded .sequencerEvent [0] = some .seInProgress ∧
    decoded .sequencerEvent [1, 9, 0, 0, 0, 0, 0, 0, 0] = some (.seDone 9) := by decide

/-- 30_encoding.md R95: the unassigned codes, a bad draw, a record with padding and bytes after an instruction are rejected. -/
theorem test_decode_rejects :
    decoded .event4 [0x10] = none ∧ decoded .uop5 [0x12] = none ∧ decoded .payload1 [0x47] = none ∧
    decoded .event4 [0x02, 2, 0] = none ∧ decoded .uop5 [0x0E, 0x03] = none ∧ decoded .result [3] = none ∧
    decoded .payload [1, 0x01, 0] = none ∧ decoded .event4 [0x05, 1] = none ∧
    decoded .record70 ([0x01, 0x00, 0x01] ++ List.replicate 67 0) = none := by decide

/-- Bare words of the opcode table (log 2). -/
theorem test_tableWords :
    decodeTableWord 8 0x03 = some (.evTick 0) ∧ decodeTableWord 8 0x11 = some .rxFlush ∧
    decodeTableWord 8 0x73 = some (.ctrl73 true true) ∧ decodeTableWord 40 0x0581F11281 = some .cmdStartSession ∧
    decodeTableWord 56 0xAE082102F11280 = some .cmdReadSensors ∧
    decodeTableWord 56 0xEE08610212F180 = some (.respFrame 0x80 0xF1 0x12 [0x61, 0x08] 0xEE) ∧
    decodeTableWord 48 0x74696E690402 = some .statusInit ∧
    decodeTableWord 560 0x03 = some (.recOtherKind (0x03 :: List.replicate 69 0)) := by decide +kernel

/-! ### The step -/

/-- Right after reset INIT runs, from the word of its row; the configuration there is legal whatever the open parameters are. -/
theorem test_step_init : got (fun t => (t.running, t.stimulus)) (step (State.reset.withFetchWord 8 0x00)) = some (false, []) := by decide +kernel
theorem test_step_start : got State.running (step (State.reset.withFetchWord 8 0x01)) = some true := by decide +kernel
theorem test_step_noStimulus : refusalOf (step State.reset) = some .noStimulus := rfl
/-- V-R3. -/
theorem test_step_beforeInit :
    refusalOf (step (withItem ⟨.event4, [0x07]⟩ { base with initDone := false })) = some .beforeInit := by decide
/-- 00_scope.md R10: `FRAME_CAP` is at least 100. -/
theorem test_step_illegalConfiguration :
    refusalOf (step (withItem ⟨.event4, [0x00]⟩ { base with cfg := { cfgR with frameCap := 99 } })) =
      some .illegalConfiguration := by decide
/-- 00_scope.md R10 bounds `MSG_PAYLOAD_MAX` only from above. -/
theorem test_step_smallestRecord :
    got State.initDone (step (withItem ⟨.event4, [0x00]⟩ { base with cfg := { cfgR with msgPayloadMax := 0, msgRecordBytes := 2 } })) =
      some true := by decide
theorem test_step_undecodable : refusalOf (step (withItem ⟨.event4, [0x10]⟩ base)) = some .undecodable := by decide

/-! ### Control (V-R1, V-T1 to V-T12) -/

theorem test_evInit_clears :
    got (fun t => (t.running, t.pstate, t.queue, t.rxFifo)) (exec .evInit busy) = some (false, .init, [], []) := by decide
theorem test_evInit_line : got (fun t => (t.lineMode, t.frameBuf)) (exec .evInit busy) = some (.off, []) := by decide
theorem test_evStart :
    got (fun t => (t.running, t.lineMode, t.watchdogDeadline)) (exec (.evStart 0 true true) base) =
      some (true, .pulse, 5000) ∧
    got (fun t => (t.running, t.lineMode, t.resultOut)) (exec (.evStart 0 true false) base) =
      some (false, .off, .errTimer) := by decide
/-- 10_state.md R45, 60_exceptions.md R310: the `now` of a START while running, or of one whose link fails, is a sample too: a later
tick below it is refused. -/
theorem test_evStart_samples :
    got (fun t => (t.lastSample, t.tickOrigin, t.trace)) (exec (.evStart 20000 true true) busy) = some (20000, 0, [.result .ok]) ∧
    got (fun t => refusalOf (exec (.evTick 19000) t)) (exec (.evStart 20000 true true) busy) = some (some .timeNotMonotonic) ∧
    got (fun t => (t.lastSample, t.resultOut)) (exec (.evStart 7 false true) base) = some (7, .errLink) ∧
    refusalOf (exec (.evStart 17999 true true) busy) = some .timeNotMonotonic := by decide
theorem test_evStop_ok :
    got (fun t => (t.running, t.lineMode, t.rxFifo, t.pstate)) (exec (.evStop true true) busy) =
      some (false, .off, [], .active) := by decide
theorem test_evStop_errLink :
    got (fun t => (t.running, t.resultOut)) (exec (.evStop true false) busy) = some (false, .errLink) := by decide
/-- V-F9 (b). -/
theorem test_evTick_transmits :
    got transmitted (exec (.evTick 19000) (session .active)) = some [0x80, 0x12, 0xF1, 0x02, 0x21, 0x08, 0xAE] := by decide
/-- V-T12. -/
theorem test_evTick_stopped : refusalOf (exec (.evTick 1000) base) = some .tickNotEnabled := by decide
theorem test_evRxByte_kept : got State.rxFifo (exec (.evRxByte 0x55) busy) = some [0x12, 0x55] := by decide
/-- V-X7. -/
theorem test_evRxByte_overflow :
    got (fun t => (t.rxFifo, t.trace)) (exec (.evRxByte 3) { busy with cfg := { cfgR with rxFifoCap := 2 }, rxFifo := [1, 2] }) =
      some ([1, 2], [.raised (.x7 3)]) := by decide
/-- V-B8. -/
theorem test_evPop_oldest :
    got (fun t => (t.queue, t.popOut.map transportCall)) (exec .evPop { base with queue := [statusRecord cfgR .init, [7]] }) =
      some ([[7]], [(0x02, [0x69, 0x6E, 0x69, 0x74])]) := by decide
/-- V-B9. -/
theorem test_evPop_empty : refusalOf (exec .evPop base) = some .popOnEmptyQueue := by decide
/-- V-D2. -/
theorem test_evPayload_start :
    got (fun t => (t.running, t.watchdogDeadline)) (exec (.evPayload [0x67] 100 true true true true) base) =
      some (true, 5100) := by decide
/-- V-D13. -/
theorem test_evPayload_restart :
    got (fun t => (t.running, t.restartReq)) (exec (.evPayload [0xFF] 0 true true false true) busy) = some (true, true) := by decide
/-- V-D14. -/
theorem test_evConnected : got (fun t => t) (exec .evConnected base) = some base := rfl
theorem test_evDisconnected : got (fun t => t) (exec .evDisconnected base) = some base := rfl

/-! ### The Frame Codec -/

/-- V-C1's first byte, from an old frame's rest. -/
theorem test_feed_first :
    got (fun t => (t.inCount, t.frameLen, t.runningChecksum, t.frameBuf)) (exec (.feed 0x80) { base with frameLen := 5, runningChecksum := 0x11 }) =
      some (1, 1, 0x80, [(0, 0x80)]) := by decide
/-- V-C3: the frame's last byte. -/
theorem test_feed_final :
    got (fun t => (t.inCount, t.frameLen))
      (exec (.feed 0x83) { base with inCount := 4, frameLen := 4, runningChecksum := 0x83, frameBuf := [(0, 0x80), (1, 0xF1), (2, 0x12), (3, 0)] }) =
      some (0, 0) := by decide
/-- V-C13. -/
theorem test_eofReset : got (fun t => (t.inCount, t.sentCount, t.frameBuf)) (exec .eofReset busy) = some (0, 0, busy.frameBuf) := by decide

/-- Every event of V-C5 but the last is Continue, and the last is FrameReady. -/
theorem test_feed_echoAndFrame :
    (match feedList [0x80, 0x12, 0xF1, 0x02, 0x21, 0x08, 0xAE, 0x80, 0xF1, 0x12, 0x02, 0x61, 0x08, 0xEE] { base with sentCount := 7 } with
      | .ok (_, evs) => evs.getLast?
      | .error _ => none) = some (.frameReady [0x80, 0xF1, 0x12, 0x02, 0x61, 0x08]) := by decide

/-! ### The Fast-Init Sequencer (V-S1, V-S10) and the Init tick -/

theorem test_seqStep_latches :
    got (fun t => (t.seqStarted, t.fastinitStart, t.lineLevel)) (exec (.seqStep 1000) base) = some (true, some 1000, .high) := by decide
/-- V-R2: after INIT `fastinit_start` has no value to read, and the first SEQ_STEP writes it before it reads it (R50). -/
theorem test_fastinitStart_unspecified :
    got State.fastinitStart (exec .evInit busy) = some none ∧
    got State.fastinitStart (exec (.evStart 18000 true true) { busy with running := false }) = some none ∧
    got (fun t => (t.fastinitStart, t.lineLevel)) (exec (.seqStep 11000) { base with sequencer := .latched 1000 }) =
      some (some 1000, .low) := by decide
/-- V-F2. -/
theorem test_tickInit_done :
    got (fun t => (t.pstate, t.lineMode, t.rxFifo, t.watchdogDeadline))
      (exec (.tickInit 15000) { base with sequencer := .latched 1000, rxFifo := [0x55] }) =
      some (.startSession, .uart, [], 20000) := by decide
/-- V-F10 (b). -/
theorem test_tickSession_timeout :
    got (fun t => (t.pstate, t.lastFrameEnd, t.watchdogDeadline))
      (exec (.tickSession 22000) { session .active with watchdogDeadline := 21999 }) = some (.startSession, 22000, 27000) := by decide
/-- V-F8. -/
theorem test_tickIllegal :
    got (fun t => (t.pstate, t.lineMode, t.watchdogDeadline)) (exec (.tickIllegal 1000) (session .illegal)) =
      some (.init, .pulse, 6000) := by decide
/-- V-F5 (a). -/
theorem test_thresholdCheck :
    got (fun t => (t.pstate, t.errorCounter, t.lastFrameEnd)) (exec (.thresholdCheck 18000) { session .active with errorCounter := 5 }) =
      some (.startSession, 0, 18000) := by decide
/-- V-F6: the drain stops after the error and leaves the last byte. -/
theorem test_rxDrain_errorInStartSession :
    got (fun t => (t.pstate, t.rxFifo))
      (exec (.rxDrain 17000) { session .startSession with
        sentCount := 5, rxFifo := [0x81, 0x12, 0xF1, 0x81, 0x05, 0x80, 0xF1, 0x12, 0x00, 0x84, 0x99] }) =
      some (.init, [0x99]) := by decide
/-- V-F4's two frames in one drain. -/
theorem test_rxDrain_twoFrames :
    got (fun t => (t.pstate, t.errorCounter, t.queue.length))
      (exec (.rxDrain 20000) { session .active with rxFifo := [0x80, 0xF1, 0x12, 0x00, 0x83, 0x80, 0xF1, 0x12, 0x00, 0x84] }) =
      some (.active, 1, 1) := by decide
/-- V-F12. -/
theorem test_txStep_startSession :
    got (fun t => (t.sentCount, transmitted t)) (exec (.txStep 19000) (session .startSession)) =
      some (5, [0x81, 0x12, 0xF1, 0x81, 0x05]) := by decide
/-- V-F9 (a). -/
theorem test_txStep_quiet :
    got State.sentCount (exec (.txStep 19000) { session .active with lastFrameEnd := 17001 }) = some 0 := by decide
/-- V-F10 (a). -/
theorem test_watchdogCheck_boundary : got State.pstate (exec (.watchdogCheck 22000) (session .active)) = some .active := by decide
theorem test_enterInit : got (fun t => (t.pstate, t.lineMode)) (exec (.enterInit 9) (session .active)) = some (.init, .pulse) := by decide
theorem test_enterStartSession :
    got (fun t => (t.pstate, t.lastFrameEnd)) (exec (.enterStartSession 9) (session .active)) = some (.startSession, 17000) := by decide
theorem test_enterActive :
    got (fun t => (t.pstate, t.errorCounter)) (exec (.enterActive 9) { session .startSession with errorCounter := 3 }) =
      some (.active, 0) := by decide

/-! ### The Outbound Bridge (V-B1, V-B2, V-B5, V-B7) and the byte ports -/

theorem test_enqueue_full :
    got (fun t => (t.queue.length, t.trace.getLast?))
      (exec (.enqueue (statusRecord cfgR .active)) { base with queue := [[1], [2], [3]] }) =
      some (3, some (.raised (.x4 0x02 0x06))) := by decide
theorem test_enqueue_malformed : refusalOf (exec (.enqueue [0x02, 0x00]) base) = some .malformedRecord := by decide
theorem test_emitStatus_init :
    got (fun t => t.queue) (exec (.emitStatus .init) base) =
      some [[0x02, 0x04, 0x69, 0x6E, 0x69, 0x74] ++ List.replicate 64 0] := by decide
/-- 00_scope.md R10 allows a `MSG_PAYLOAD_MAX` below a status text: the record offered is still one of 30_encoding.md R85, of
`MSG_RECORD_BYTES` bytes (20_memory.md R62), of kind Text (log 8). -/
theorem test_emitStatus_smallRecord (c : Config) (h : c = { cfgR with msgPayloadMax := 3, msgRecordBytes := 5 }) :
    got (fun t => t.queue) (exec (.emitStatus .init) { base with cfg := c }) = some [statusRecord c .init] ∧
    recordWf c (statusRecord c .init) = true ∧ (statusRecord c .init).head? = some 0x02 := by
  subst h
  exact ⟨rfl, recordWf_statusRecord (by decide) (by decide) .init, rfl⟩
theorem test_emitFrame :
    got (fun t => t.queue) (exec (.emitFrame [0x80, 0xF1, 0x12, 0x02, 0x61, 0x08]) base) =
      some [[0x01, 0x06, 0x80, 0xF1, 0x12, 0x02, 0x61, 0x08] ++ List.replicate 62 0] := by decide
theorem test_emitFrame_long :
    got (fun t => t.queue) (exec (.emitFrame ([0x80, 0xF1, 0x12, 0xFF] ++ List.replicate 255 0x11)) base) =
      some [[0x01, 0x44, 0x80, 0xF1, 0x12, 0xFF] ++ List.replicate 64 0x11] := by decide
theorem test_txWrite : got transmitted (exec (.txWrite 0xAE) base) = some [0xAE] := by decide
theorem test_rxFlush : got State.rxFifo (exec .rxFlush busy) = some [] := by decide

/-! ### Payload rows (V-D1 to V-D9) -/

theorem test_ctrl01 : got State.running (exec (.ctrl01 0 true true) base) = some true := by decide
theorem test_ctrl67 : got State.lastFrameEnd (exec (.ctrl67 100 true true) base) = some 100 := by decide
theorem test_ctrl00 : got (fun t => t) (exec (.ctrl00 true true) base) = some base := rfl
theorem test_ctrl73 : got (fun t => (t.running, t.lineMode)) (exec (.ctrl73 true true) busy) = some (false, .off) := by decide
theorem test_ctrlFF : got (fun t => (t.running, t.restartReq)) (exec (.ctrlFF true true) busy) = some (false, true) := by decide
theorem test_ctrl72 : got (fun t => (t.running, t.restartReq)) (exec (.ctrl72 true true) base) = some (false, true) := by decide
theorem test_ctrlOther : got (fun t => t) (exec (.ctrlOther [0x47]) base) = some base := rfl

/-! ### Frames, records and values -/

theorem test_cmdStartSession : got transmitted (exec .cmdStartSession base) = some [0x81, 0x12, 0xF1, 0x81, 0x05] := by decide
theorem test_cmdReadSensors :
    got transmitted (exec .cmdReadSensors base) = some [0x80, 0x12, 0xF1, 0x02, 0x21, 0x08, 0xAE] := by decide
theorem test_respFrame :
    got State.rxFifo (exec (.respFrame 0x80 0xF1 0x12 [0x61, 0x08] 0xEE) (session .active)) =
      some [0x80, 0xF1, 0x12, 0x02, 0x61, 0x08, 0xEE] := by decide
theorem test_recData : got (fun t => t.queue.map transportCall) (exec (.recData [0xAA]) base) = some [(0x01, [0xAA])] := by decide
theorem test_recText : got (fun t => t.queue.map transportCall) (exec (.recText [0x41]) base) = some [(0x02, [0x41])] := by decide
theorem test_statusInit : got (fun t => t.queue) (exec .statusInit base) = some [statusRecord cfgR .init] := by decide
theorem test_statusStartSession :
    got (fun t => t.queue) (exec .statusStartSession base) =
      some [[0x02, 0x0D, 0x73, 0x74, 0x61, 0x72, 0x74, 0x5F, 0x73, 0x65, 0x73, 0x73, 0x69, 0x6F, 0x6E] ++ List.replicate 55 0] := by decide
theorem test_statusActive :
    got (fun t => t.queue) (exec .statusActive base) = some [[0x02, 0x06, 0x61, 0x63, 0x74, 0x69, 0x76, 0x65] ++ List.replicate 62 0] := by decide
theorem test_pstateValues :
    got State.pstate (exec .pstateInit busy) = some .init ∧ got State.pstate (exec .pstateStartSession busy) = some .startSession ∧
    got State.pstate (exec .pstateActive base) = some .active ∧ got State.pstate (exec .pstateIllegal base) = some .illegal := by decide
theorem test_lineValues :
    got State.lineMode (exec .lineOff busy) = some .off ∧ got State.lineMode (exec .linePulse busy) = some .pulse ∧
    got State.lineMode (exec .lineUart base) = some .uart := by decide
theorem test_results :
    got State.resultOut (exec .resOk { base with resultOut := .errLink }) = some .ok ∧
    got State.resultOut (exec .resErrLink base) = some .errLink ∧ got State.resultOut (exec .resErrTimer base) = some .errTimer := by decide
theorem test_frameEvents :
    got State.pstate (exec (.feFrameReady 20000 [0x80]) (session .startSession)) = some .active ∧
    got State.errorCounter (exec (.feChecksumError 20000 0x84 0x83) { session .active with errorCounter := 255 }) = some 255 ∧
    got State.pstate (exec .feContinue busy) = some .active := by decide
theorem test_sequencerEvents :
    got State.pstate (exec .seInProgress base) = some .init ∧
    got (fun t => (t.pstate, t.lineMode)) (exec (.seDone 15000) base) = some (.startSession, .uart) := by decide
/-- The rows that only stop. -/
theorem test_stops :
    refusalOf (exec .evReserved9 base) = some (.reservedEventCode 0x9) ∧
    refusalOf (exec .evReservedF base) = some (.reservedEventCode 0xF) ∧
    refusalOf (exec (.recOtherKind [0x03]) base) = some .malformedRecord ∧
    refusalOf (exec .lineMode3 base) = some .lineModeNeverWritten := by decide
/-- WATCHDOG_CHECK past its deadline where its `case` has no arm (log 17). -/
theorem test_watchdogCheck_init : faultOf (exec (.watchdogCheck 1) base) = some .watchdogOutsideSession := by decide

/-- 30_encoding.md R97, R98: `RXFRAME` appends the checksum, and an event's text. -/
theorem test_script :
    expandLine ⟨base, 0, 0⟩ (.rxFrame [0x80, 0xF1, 0x12, 0x00]) =
      [.evRxByte 0x80, .evRxByte 0xF1, .evRxByte 0x12, .evRxByte 0x00, .evRxByte 0x83] := by decide

/-! ### Witnesses: for each statement with hypotheses, states and operands that meet them, one for each clause -/

theorem witness_sound : Sound busy := by constructor <;> decide
theorem witness_inSession : InSession busy := by constructor <;> decide
/-- The longest command sent and a frame of the longest payload one byte before its end. -/
theorem witness_sound_bound :
    Sound { session .active with sentCount := 7, inCount := 266, expectedLength := 255 } := by constructor <;> decide

theorem witness_legal : LegalConfig cfgR := by constructor <;> decide

/-- With witness_legal, for the configuration. -/
theorem witness_StepRunsTheFetchedInstruction :
    (withItem ⟨.event4, [0x05]⟩ busy).stimulus = [⟨.event4, [0x05]⟩] ∧ decoded .event4 [0x05] = some .evPop ∧
    busy.cfg = cfgR ∧ busy.initDone = true := by decide
theorem witness_StepRunsTheFetchedInstruction_init :
    decoded .event4 [0x00] = some .evInit ∧ base.cfg = cfgR ∧ { base with initDone := false }.initDone = false := by decide
theorem witness_BootOrderIsEnforced :
    decodeItem ⟨.event4, [0x00]⟩ = .ok .evInit ∧ ¬LegalConfig { cfgR with frameCap := 99 } ∧
    decodeItem ⟨.event4, [0x07]⟩ = .ok .evConnected ∧ LegalConfig cfgR ∧ Instr.evConnected ≠ .evInit :=
  ⟨rfl, fun h => absurd h.frameRoom (by decide), rfl, witness_legal, by decide⟩
theorem witness_DecodeInvertsEncode :
    (Instr.recData (List.replicate 68 0xFF)).wf = true ∧ (Instr.ctrlOther []).wf = true ∧
    (Instr.recOtherKind (0x02 :: 0x45 :: List.replicate 68 0)).wf = true := by decide
theorem witness_DecodeInvertsEncode_longestFrame :
    (Instr.respFrame 0 0 0 (List.replicate 255 0xFF) 0).wf = true := by decide +kernel
theorem witness_DecodedInstructionsAreWellFormed : decodeItem ⟨.payload, [1, 0x47, 0]⟩ = .ok (.ctrlOther [0x47]) := rfl

/-- A sound state in session whose next step, an EV_RX_BYTE, answers a next state: for StepKeepsSound, EventStepKeepsInSession
and EventStepNeverFaults. -/
theorem witness_EventStep :
    Sound (withItem ⟨.event4, [0x04, 0x55]⟩ busy) ∧ InSession (withItem ⟨.event4, [0x04, 0x55]⟩ busy) ∧
    nextIsEvent (withItem ⟨.event4, [0x04, 0x55]⟩ busy) = true ∧
    ∃ t, step (withItem ⟨.event4, [0x04, 0x55]⟩ busy) = .next t :=
  ⟨by constructor <;> decide, by constructor <;> decide, by decide, _, rfl⟩

/-- For ConfigurationNeverChanges, OnlyPopAndInitRemoveRecords, OnlyControlEventsWriteTheFlags and the events of
TickOffersOneStatusPerTransition that are no tick. -/
theorem witness_ExecAnswers :
    isEvent .evPop = true ∧ (∀ now, Instr.evPop ≠ .evTick now) ∧ (∃ t, exec .evPop busy = .next t) ∧ (∃ t, exec (.evTick 19000) busy = .next t) :=
  ⟨rfl, by simp, ⟨_, rfl⟩, ⟨_, rfl⟩⟩
theorem witness_StoppedBlockKeepsItsFields :
    isEvent (.evPayload [0x72] 0 true true true true) = true ∧ Instr.evPayload [0x72] 0 true true true true ≠ .evInit ∧
    (∀ now l d, Instr.evPayload [0x72] 0 true true true true ≠ .evStart now l d) ∧
    (∀ p now a b c d, Instr.evPayload [0x72] 0 true true true true = .evPayload p now a b c d → p ≠ [0x01] ∧ p ≠ [0x67]) ∧
    base.running = false ∧ ∃ t, exec (.evPayload [0x72] 0 true true true true) base = .next t :=
  ⟨rfl, by simp, by simp, by simp +contextual, rfl, _, rfl⟩
/-- A byte that arrives on a line that is off, and a STOP that turns the line off. -/
theorem witness_StoppedBlockKeepsItsFields_off :
    (base.lineMode = .off ∧ base.rxFifo = [] ∧ ∃ t, exec (.evRxByte 0x11) base = .next t ∧ t.lineMode = .off) ∧
    (busy.lineMode ≠ .off ∧ ∃ t, exec (.evStop true true) busy = .next t ∧ t.lineMode = .off) :=
  ⟨⟨rfl, rfl, _, rfl, rfl⟩, by decide, _, rfl, rfl⟩

/-- At the earliest and at the latest sample a run can have; also for StartFailuresReturnTheirCodes. -/
theorem witness_StartResetsTheSession :
    base.running = false ∧ base.lastSample.toNat ≤ (0 : Time).toNat ∧ (0 : Time).toNat + base.cfg.t3Us < 2 ^ 64 ∧
    base.lastSample.toNat ≤ (0xFFFFFFFFFFFFEC77 : Time).toNat ∧
    (0xFFFFFFFFFFFFEC77 : Time).toNat + base.cfg.t3Us < 2 ^ 64 := by decide
/-- The earliest first tick after a START at 0. -/
theorem witness_StartResetsTheSession_firstTick :
    (0 : Time).toNat + base.cfg.tickPeriodUs ≤ (1000 : Time).toNat ∧ (1000 : Time).toNat + base.cfg.t3Us < 2 ^ 64 := by decide
/-- At the last sample itself. -/
theorem witness_StartWhileRunningIsANoOp :
    busy.running = true ∧ busy.lastSample.toNat ≤ (18000 : Time).toNat := by decide
/-- One below an earlier sample, and the first `now` whose deadline does not fit. -/
theorem witness_StartRefusesImpossibleSamples :
    (17999 : Time).toNat < busy.lastSample.toNat ∧ base.running = false ∧
    base.lastSample.toNat ≤ (0xFFFFFFFFFFFFEC78 : Time).toNat ∧
    2 ^ 64 ≤ (0xFFFFFFFFFFFFEC78 : Time).toNat + base.cfg.t3Us := by decide
theorem witness_StopHaltsThenReleases : busy.running = true ∧ base.running = false := by decide
theorem witness_RepeatedStartAndStopAreIdempotent :
    (∃ t, exec (.evStart 0 true true) base = .next t ∧ t.resultOut = .ok ∧ (0 : Time).toNat ≤ (0 : Time).toNat) ∧
    (∃ t, exec (.evStop true false) busy = .next t ∧ t.resultOut = .errLink) ∧
    (∃ t, exec (.evStop true true) busy = .next t ∧ t.resultOut = .ok) :=
  ⟨⟨_, rfl, rfl, by decide⟩, ⟨_, rfl, rfl⟩, ⟨_, rfl, rfl⟩⟩

/-- One before the nominal time, at it, and below an earlier sample. -/
theorem witness_TickWaitsForItsTime :
    base.running = false ∧ busy.running = true ∧
    (18999 : Time).toNat < busy.tickOrigin.toNat + (busy.tickCount + 1) * busy.cfg.tickPeriodUs ∧
    { busy with lastSample := 19001 }.tickOrigin.toNat + (busy.tickCount + 1) * busy.cfg.tickPeriodUs ≤ (19000 : Time).toNat ∧
    (19000 : Time).toNat < { busy with lastSample := 19001 }.lastSample.toNat := by decide
/-- Also for EnabledTickCompletes, with witness_sound. -/
theorem witness_TickRunsTheArmOfItsState :
    busy.running = true ∧ busy.tickOrigin.toNat + (busy.tickCount + 1) * busy.cfg.tickPeriodUs ≤ (19000 : Time).toNat ∧
    busy.lastSample.toNat ≤ (19000 : Time).toNat ∧ (19000 : Time).toNat + busy.cfg.t3Us < 2 ^ 64 := by decide
/-- A tick of each arm: Init before and at the end of the sequence, StartSession with an empty FIFO at and past the deadline,
Active at and below the threshold, with and without a byte, and the illegal state. Also for TickOffersOneStatusPerTransition and
TickIsBounded. -/
theorem witness_TickTransitionTable :
    (∃ t, exec (.evTick 19000) { session .init with sequencer := .latched 5001 } = .next t ∧ t.pstate = .init) ∧
    (∃ t, exec (.evTick 19000) { session .init with sequencer := .latched 5000 } = .next t ∧
      t.pstate = .startSession) ∧
    (∃ t, exec (.evTick 22000) (session .startSession) = .next t ∧ t.pstate = .startSession) ∧
    (∃ t, exec (.evTick 22001) (session .startSession) = .next t ∧ t.pstate = .init) ∧
    (∃ t, exec (.evTick 19000) { session .active with errorCounter := 5 } = .next t ∧ t.pstate = .startSession) ∧
    (∃ t, exec (.evTick 22001) { session .active with errorCounter := 4 } = .next t ∧ t.pstate = .startSession) ∧
    (∃ t, exec (.evTick 19000) busy = .next t ∧ t.pstate = .active) ∧
    (∃ t, exec (.evTick 19000) (session .illegal) = .next t ∧ t.pstate = .init) :=
  ⟨⟨_, rfl, rfl⟩, ⟨_, rfl, rfl⟩, ⟨_, rfl, rfl⟩, ⟨_, rfl, rfl⟩, ⟨_, rfl, rfl⟩, ⟨_, rfl, rfl⟩, ⟨_, rfl, rfl⟩, ⟨_, rfl, rfl⟩⟩
/-- `T4_US` one above `T3_US`, at the deadline, where the session times out on the next tick. -/
def slow : State := { session .active with cfg := { cfgR with t4Us := 5001 } }
theorem witness_LongQuietPeriodNeverSends :
    slow.cfg.t3Us < slow.cfg.t4Us ∧ slow.pstate = .active ∧ slow.rxFifo = [] ∧
    slow.watchdogDeadline.toNat ≤ slow.lastFrameEnd.toNat + slow.cfg.t3Us ∧ ∃ t, exec (.evTick 22000) slow = .next t :=
  ⟨by decide, by decide, by decide, by decide, _, rfl⟩
/-- The first and the last time of each window, for InitTickStepsTheSequencer and SequencerFollowsItsWindows; `base` latches at
`now`, so only the first window is open to its first call. -/
def latched : State := { base with sequencer := .latched 1000 }
theorem witness_SequencerFollowsItsWindows :
    (15000 : Time).toNat + latched.cfg.t3Us < 2 ^ 64 ∧
    (10999 : Time).toNat < (sequenceStart 10999 latched).toNat + latched.cfg.t1Us ∧
    ((sequenceStart 11000 latched).toNat + latched.cfg.t1Us ≤ (11000 : Time).toNat ∧
      (12999 : Time).toNat < (sequenceStart 12999 latched).toNat + (latched.cfg.t1Us + latched.cfg.t2Us)) ∧
    ((sequenceStart 13000 latched).toNat + (latched.cfg.t1Us + latched.cfg.t2Us) ≤ (13000 : Time).toNat ∧
      (14999 : Time).toNat < (sequenceStart 14999 latched).toNat + (latched.cfg.t1Us + 2 * latched.cfg.t2Us)) ∧
    (sequenceStart 15000 latched).toNat + (latched.cfg.t1Us + 2 * latched.cfg.t2Us) ≤ (15000 : Time).toNat := by decide
theorem witness_SequencerIsDoneOncePerSequence :
    latched.seqStarted = true ∧ latched.fastinitStart = some 1000 ∧
    (∀ t ∈ [(1000 : Time), 14999], t.toNat < (1000 : Time).toNat + (latched.cfg.t1Us + 2 * latched.cfg.t2Us)) ∧
    (1000 : Time).toNat + (latched.cfg.t1Us + 2 * latched.cfg.t2Us) ≤ (15000 : Time).toNat :=
  ⟨rfl, rfl, by simp [latched, base, cfgR], by decide⟩
/-- The call that begins a sequence, with windows and (V-S8) without. -/
theorem witness_SequencerIsDoneOncePerSequence_first :
    base.seqStarted = false ∧ base.cfg.t1Us + 2 * base.cfg.t2Us ≠ 0 ∧
    { cfgR with t1Us := 0, t2Us := 0 }.t1Us + 2 * { cfgR with t1Us := 0, t2Us := 0 }.t2Us = 0 := by decide

/-- With witness_sound: a byte waiting below the threshold; at the threshold; an empty FIFO at and past the deadline. Also for
DrainCompletes. -/
theorem witness_SessionTickTakesItsSteps :
    busy.pstate = .active ∧ (19000 : Time).toNat + busy.cfg.t3Us < 2 ^ 64 ∧ busy.errorCounter.toNat < busy.cfg.errThreshold ∧
    busy.rxFifo ≠ [] ∧ busy.cfg.errThreshold ≤ { busy with errorCounter := 5 }.errorCounter.toNat ∧
    { busy with rxFifo := [] }.rxFifo = [] ∧ busy.watchdogDeadline.toNat < (22001 : Time).toNat ∧
    (22000 : Time).toNat ≤ busy.watchdogDeadline.toNat := by decide
/-- The latest `now` of a run, for the micro-operations that store a deadline. -/
theorem witness_deadlineFits :
    (0xFFFFFFFFFFFFEC77 : Time).toNat + busy.cfg.t3Us < 2 ^ 64 := by decide
theorem witness_ThresholdDowngrades :
    busy.cfg.errThreshold ≤ { busy with errorCounter := 5 }.errorCounter.toNat ∧ busy.errorCounter.toNat < busy.cfg.errThreshold := by decide
theorem witness_WatchdogDowngrades :
    (22000 : Time).toNat ≤ (session .active).watchdogDeadline.toNat ∧ (session .active).watchdogDeadline.toNat < (22001 : Time).toNat ∧
    (session .active).pstate = .active ∧ (session .startSession).pstate = .startSession := by decide
/-- Everything sent; the quiet period one µs short; and over, with either chunk. -/
theorem witness_TransmissionStepSendsTheCommand :
    readSensorsCommand.length ≤ busy.sentCount.toNat ∧ (session .active).sentCount.toNat < readSensorsCommand.length ∧
    (18999 : Time).toNat < (session .active).lastFrameEnd.toNat + cfgR.t4Us ∧
    (session .active).lastFrameEnd.toNat + cfgR.t4Us ≤ (19000 : Time).toNat ∧ cfgR.txChunk = .all ∧
    { cfgR with txChunk := .bytes 3 }.txChunk = .bytes 3 := by decide

/-- One byte before a frame's final byte, in the given state. -/
def nearEnd (p : PState) (b : Byte) : State :=
  { session p with
    inCount := 4, frameLen := 4, runningChecksum := 0x83, frameBuf := [(0, 0x80), (1, 0xF1), (2, 0x12), (3, 0x00)], rxFifo := [b] }
/-- Each event FEED can return to the drain, in StartSession and in Active. -/
theorem witness_DrainTakesTheOldestByte :
    (19000 : Time).toNat + busy.cfg.t3Us < 2 ^ 64 ∧
    (∃ u, feedByte 0x12 { busy with rxFifo := [], watchdogDeadline := 24000 } = .ok (u, .more)) ∧
    (∃ u, feedByte 0x83 { nearEnd .startSession 0x83 with rxFifo := [], watchdogDeadline := 24000 } =
      .ok (u, .frameReady [0x80, 0xF1, 0x12, 0x00])) ∧
    (∃ u, feedByte 0x84 { nearEnd .active 0x84 with rxFifo := [], watchdogDeadline := 24000 } = .ok (u, .checksumError 0x84 0x83)) :=
  ⟨by decide, ⟨_, rfl⟩, ⟨_, rfl⟩, ⟨_, rfl⟩⟩

/-- The last echo byte. -/
theorem witness_FeedDiscardsAnEcho :
    { base with sentCount := 7, inCount := 6 }.inCount.toNat + 1 < 2 ^ 16 ∧
    { base with sentCount := 7, inCount := 6 }.inCount.toNat + 1 ≤ { base with sentCount := 7, inCount := 6 }.sentCount.toNat := by decide
/-- The first genuine byte, and one in the middle of a frame. -/
theorem witness_FeedStoresAGenuineByte :
    ({ base with sentCount := 7, inCount := 7 }.sentCount.toNat < { base with sentCount := 7, inCount := 7 }.inCount.toNat + 1 ∧
      1 ≠ (0 : Byte).toNat + 5 ∧ 0 < cfgR.frameCap) ∧
    (busy.inCount.toNat + 1 < 2 ^ 16 ∧ busy.sentCount.toNat < busy.inCount.toNat + 1 ∧
      3 = busy.inCount.toNat + 1 - busy.sentCount.toNat ∧ 2 = busy.frameLen.toNat ∧ 3 ≠ busy.expectedLength.toNat + 5 ∧
      2 < busy.cfg.frameCap ∧ 2 + 1 < 2 ^ 16) := by decide
/-- V-C10: the 101st genuine byte with a buffer of 100. -/
def full : State :=
  { base with cfg := { cfgR with frameCap := 100 }, inCount := 100, frameLen := 100, expectedLength := 97 }
theorem witness_FeedSumsAByteThatDoesNotFit :
    full.inCount.toNat + 1 < 2 ^ 16 ∧ full.sentCount.toNat < full.inCount.toNat + 1 ∧
    101 = full.inCount.toNat + 1 - full.sentCount.toNat ∧ 101 ≠ 1 ∧ 101 ≠ full.expectedLength.toNat + 5 ∧
    full.cfg.frameCap ≤ full.frameLen.toNat := by decide
theorem witness_FeedAnswersAtTheFinalByte :
    (nearEnd .active 0x83).inCount.toNat + 1 < 2 ^ 16 ∧
    (nearEnd .active 0x83).inCount.toNat + 1 =
      (nearEnd .active 0x83).sentCount.toNat + (nearEnd .active 0x83).expectedLength.toNat + 5 ∧
    [(0x80 : Byte), 0xF1, 0x12, 0x00].length = (nearEnd .active 0x83).frameLen.toNat ∧
    ∀ a, a < [(0x80 : Byte), 0xF1, 0x12, 0x00].length →
      memRead (nearEnd .active 0x83).frameBuf a = [(0x80 : Byte), 0xF1, 0x12, 0x00][a]? := by decide
theorem witness_EchoBytesNeverEnterTheFrame :
    { base with sentCount := 5 }.inCount = 0 ∧ startSessionCommand.length ≤ { base with sentCount := 5 }.sentCount.toNat := by decide
/-- V-C5's frame. -/
theorem witness_ChecksumDecidesTheFrame :
    { base with sentCount := 7 }.inCount = 0 ∧ readSensorsCommand.length = { base with sentCount := 7 }.sentCount.toNat ∧
    [(0x80 : Byte), 0xF1, 0x12, 0x02, 0x61, 0x08][3]? = some 0x02 ∧
    [(0x80 : Byte), 0xF1, 0x12, 0x02, 0x61, 0x08].length = (0x02 : Byte).toNat + 4 ∧
    [(0x80 : Byte), 0xF1, 0x12, 0x02, 0x61, 0x08].length ≤ { base with sentCount := 7 }.cfg.frameCap ∧
    readSensorsCommand.length + [(0x80 : Byte), 0xF1, 0x12, 0x02, 0x61, 0x08].length + 1 < 2 ^ 16 := by decide

/-- A line that is off; a full FIFO; a FIFO with room. Also for ResponseFrameArrives. -/
theorem witness_ReceivedByteArrives :
    base.lineMode = .off ∧ busy.lineMode ≠ .off ∧
    { busy with cfg := { cfgR with rxFifoCap := 1 } }.rxFifo.length = { busy with cfg := { cfgR with rxFifoCap := 1 } }.cfg.rxFifoCap ∧
    busy.rxFifo.length ≠ busy.cfg.rxFifoCap ∧ busy.rxFifo.length ≤ busy.cfg.rxFifoCap := by decide
theorem witness_PopHandsOverTheOldestRecord :
    base.queue = [] ∧ busy.queue = [frameRecord cfgR [0x80, 0xF1, 0x12, 0x00]] := by decide
/-- A payload of the longest length; a kind that is none; a length one above the longest. Also for
RecordRowsOfferTheirRecord. -/
theorem witness_EnqueueOffersWellFormedRecords :
    (List.replicate 68 (0xAA : Byte)).length ≤ base.cfg.msgPayloadMax ∧ base.cfg.msgPayloadMax ≤ 255 ∧
    base.cfg.msgPayloadMax + 2 = base.cfg.msgRecordBytes ∧
    (([0x03, 0x00] : Record).getD 0 0 ≠ 0x01 ∧ ([0x03, 0x00] : Record).getD 0 0 ≠ 0x02) ∧
    base.cfg.msgPayloadMax < (([0x01, 0x45] : Record).getD 1 0).toNat ∧
    base.cfg.msgPayloadMax < (List.replicate 69 (0xAA : Byte)).length := by decide
/-- With witness_StartResetsTheSession for the clause whose draw is ok. -/
theorem witness_StartBytesStart :
    (17999 : Time).toNat < busy.lastSample.toNat ∧ busy.running = true ∧ busy.lastSample.toNat ≤ (18000 : Time).toNat ∧
    base.running = false ∧ base.lastSample.toNat ≤ (0 : Time).toNat := by decide
theorem witness_StopAndRestartBytesStop :
    stopped busy = (if busy.running then if true then if true then stopped busy else recorded .x5 (stopped busy)
      else recorded .x6 busy else busy) := by simp [busy, session]
theorem witness_OtherPayloadsAndCallbacksAreIgnored :
    ([] : List Byte) ≠ [0x01] ∧ [(0x47 : Byte)] ≠ [0x67] ∧ [(0x01 : Byte), 0x00] ≠ [0x01] ∧ [(0x47 : Byte)] ≠ [0x00] ∧
    [(0x47 : Byte)] ≠ [0x73] ∧ [(0x47 : Byte)] ≠ [0xFF] ∧ [(0x47 : Byte)] ≠ [0x72] ∧ [(0x47 : Byte)] ≠ [0x01] := by decide
theorem witness_CodecAndSequencerEventsAreActedOn :
    (session .startSession).pstate = .startSession ∧ (session .active).pstate ≠ .startSession ∧
    (19000 : Time).toNat + (session .active).cfg.t3Us < 2 ^ 64 := by decide

end Sys2Proof.Tests
end

section
/-! PROOFS. 00_scope.md: the step and the boot order. -/

namespace Sys2Proof.Proofs
open Sys2Proof.Machine Sys2Proof.Safety

/-- When the boot order lets an instruction pass (00_scope.md R10, 70_reset_and_hazards.md R324). -/
theorem bootRefusal_eq_none_iff {i : Instr} {s : State} :
    bootRefusal i s = none ↔ LegalConfig s.cfg ∧ (s.initDone = true ∨ i = .evInit) := by
  rw [← configLegal_iff_legalConfig]
  by_cases hcfg : configLegal s.cfg = true
  · by_cases hboot : s.initDone = true ∨ i = .evInit <;> simp [bootRefusal, hcfg, hboot]
  · simp [bootRefusal, hcfg]

/-- Settles O1: the boot order lets the fetched instruction pass, and past it a step is `exec`. -/
theorem stepRunsTheFetchedInstruction : Obligations.StepRunsTheFetchedInstruction := by
  intro s it rest i hstimulus hdecode hlegal hboot
  have hpass : bootRefusal i s = none := bootRefusal_eq_none_iff.mpr ⟨hlegal, hboot⟩
  exact step_of_fetch hstimulus hdecode hpass

end Sys2Proof.Proofs
end

section
/-! PROOFS. 10_state.md: what a stopped block keeps, and the empty FIFO of a line that is off. -/

namespace Sys2Proof.Proofs
open Sys2Proof.Machine Sys2Proof.Safety

/-! ### What the events that are no tick did -/

/-- A START that completed returned the code of `startBlock`. -/
theorem execEvStart_cases {now : Time} {l d : Bool} {s t : State} (h : execEvStart now l d s = .next t) :
    ∃ u c, startBlock now l d s = .ok (u, c) ∧ t = returnResult c u := by
  cases hb : startBlock now l d s with
  | error r => simp [execEvStart, hb] at h
  | ok uc => exact ⟨uc.1, uc.2, rfl, by simpa [execEvStart, hb] using h.symm⟩

/-- A dispatched start that completed ran `startBlock` and discarded its code (45_command_dispatch.md R275). -/
theorem dispatchStart_cases {now : Time} {l d : Bool} {s t : State} (h : dispatchStart now l d s = .next t) :
    ∃ c, startBlock now l d s = .ok (t, c) := by
  cases hb : startBlock now l d s with
  | error r => simp [dispatchStart, hb] at h
  | ok uc => exact ⟨uc.2, by simpa [dispatchStart, hb, Prod.ext_iff] using h⟩

/-- A POP that completed took the head of the queue. -/
theorem execEvPop_cases {s t : State} (h : execEvPop s = .next t) :
    ∃ r rest, s.queue = r :: rest ∧ t = { s with queue := rest, popOut := s.popOut ++ [r] } := by
  cases hq : s.queue with
  | nil => simp [execEvPop, hq] at h
  | cons r rest => exact ⟨r, rest, rfl, by simpa [execEvPop, hq] using h.symm⟩

/-- Everything a payload that completed can have done (45_command_dispatch.md R270 to R274). -/
theorem execEvPayload_cases {p : List Byte} {now : Time} {li ts tp ld : Bool} {s t : State}
    (h : execEvPayload p now li ts tp ld s = .next t) :
    ((p = [0x01] ∨ p = [0x67]) ∧ ∃ c, startBlock now li ts s = .ok (t, c)) ∨
    t = (stopBlock tp ld s).1 ∨ t = requestRestart (stopBlock tp ld s).1 ∨ t = s := by
  cases ha : payloadAction p with
  | start => exact .inl ⟨payloadAction_start.1 ha, dispatchStart_cases (by simpa [execEvPayload, ha] using h)⟩
  | stop => exact .inr (.inl (by simpa [execEvPayload, ha, dispatchStop] using h.symm))
  | restart => exact .inr (.inr (.inl (by simpa [execEvPayload, ha, dispatchRestart] using h.symm)))
  | ignore => exact .inr (.inr (.inr (by simpa [execEvPayload, ha] using h.symm)))

/-! ### The stopped block -/

/-- `t` differs from `s` at most in the fields that may change while `running = 0`, and in the outputs. -/
def OnlyStoppedFieldsDiffer (s t : State) : Prop :=
  t = { s with
    queue := t.queue, rxFifo := t.rxFifo, restartReq := t.restartReq, popOut := t.popOut,
    resultOut := t.resultOut, trace := t.trace }

/-- A STOP of a stopped block does nothing (43_tick_scheduler.md R227). -/
theorem stopBlock_of_stopped {s : State} (d l : Bool) (hstopped : s.running = false) :
    stopBlock d l s = (s, .ok) := by
  simp [stopBlock, hstopped]

theorem stopped_payload_differs {p : List Byte} {now : Time} {li ts tp ld : Bool} {s t : State}
    (hstopped : s.running = false) (hp : p ≠ [0x01] ∧ p ≠ [0x67]) (h : execEvPayload p now li ts tp ld s = .next t) :
    OnlyStoppedFieldsDiffer s t := by
  obtain ⟨hstart, -⟩ | h := execEvPayload_cases h
  · exact absurd hstart (not_or.2 hp)
  · rw [stopBlock_of_stopped tp ld hstopped] at h
    obtain rfl | rfl | rfl := h <;> rfl

/-- 10_state.md R51, first sentence: of the nine events, TICK is not enabled and STOP does nothing. -/
theorem stopped_event_differs {i : Instr} {s t : State} (hevent : isEvent i = true) (h : exec i s = .next t)
    (hstopped : s.running = false) (hinit : i ≠ .evInit) (hstart : ∀ now l d, i ≠ .evStart now l d)
    (hpayload : ∀ p now a b c d, i = .evPayload p now a b c d → p ≠ [0x01] ∧ p ≠ [0x67]) :
    OnlyStoppedFieldsDiffer s t := by
  cases i with
  | evInit => exact absurd rfl hinit
  | evStart now l d => exact absurd rfl (hstart now l d)
  | evStop d l =>
    cases h
    rw [stopBlock_of_stopped d l hstopped]
    rfl
  | evTick now =>
    obtain ⟨hrunning, -⟩ := execEvTick_cases h
    exact absurd hrunning (by simp [hstopped])
  | evRxByte b => cases h; rfl
  | evPop => obtain ⟨r, rest, -, rfl⟩ := execEvPop_cases h; rfl
  | evPayload p now li ts tp ld => exact stopped_payload_differs hstopped (hpayload _ _ _ _ _ _ rfl) h
  | evConnected => cases h; rfl
  | evDisconnected => cases h; rfl
  | _ => exact absurd hevent Bool.false_ne_true

/-! ### The line that is off -/

/-- 10_state.md R51, second sentence: the receive FIFO is empty while the line is off. -/
def OffEmpty (s : State) : Prop := s.lineMode = .off → s.rxFifo = []

theorem offEmpty_of_on {s : State} (h : s.lineMode ≠ .off) : OffEmpty s := fun hoff => absurd hoff h

theorem offEmpty_of_empty {s : State} (h : s.rxFifo = []) : OffEmpty s := fun _ => h

theorem OffEmpty.of_eq {s t : State} (hs : OffEmpty s) (hmode : t.lineMode = s.lineMode) (hfifo : t.rxFifo = s.rxFifo) :
    OffEmpty t := fun hoff => hfifo.trans (hs (hmode.symm.trans hoff))

/-- ENTER_INIT puts the line in PULSE (42_protocol_fsm.md R187). -/
theorem offEmpty_toInit (now : Time) (s : State) : OffEmpty (toInit now s) := offEmpty_of_on LineMode.noConfusion

theorem OffEmpty.toStartSession {s : State} (hs : OffEmpty s) (now : Time) : OffEmpty (toStartSession now s) :=
  hs.of_eq rfl rfl

theorem OffEmpty.transmit {s : State} (hs : OffEmpty s) (now : Time) : OffEmpty (transmit now s) := by
  rw [transmit_frame]
  exact hs.of_eq rfl rfl

/-- A byte that arrives on a line that is off is dropped (20_memory.md R64). -/
theorem OffEmpty.rxArrive {s : State} (hs : OffEmpty s) (b : Byte) : OffEmpty (rxArrive b s) := by
  obtain ⟨-, h⟩ | ⟨hon, -⟩ | ⟨hon, -⟩ := rxArrive_cases b s
  · rw [h]
    exact hs
  · exact offEmpty_of_on hon
  · exact offEmpty_of_on hon

/-- A START leaves the line as it was, brings it up, or releases it with the FIFO flushed. -/
theorem OffEmpty.startBlock {now : Time} {l d : Bool} {s t : State} {c : ResultCode} (hs : OffEmpty s)
    (h : startBlock now l d s = .ok (t, c)) : OffEmpty t := by
  obtain ⟨-, ⟨-, -, rfl⟩ | ⟨-, -, -, rfl⟩ | ⟨-, -, -, ⟨-, -, rfl⟩ | ⟨-, -, rfl⟩⟩⟩ := startBlock_cases h
  · exact hs.of_eq rfl rfl
  · exact hs.of_eq rfl rfl
  · exact offEmpty_of_empty rfl
  · exact offEmpty_of_empty rfl

/-- A STOP leaves the line as it was, or releases it with the FIFO flushed. -/
theorem OffEmpty.stopBlock {s : State} (hs : OffEmpty s) (d l : Bool) : OffEmpty (stopBlock d l s).1 := by
  obtain ⟨-, h⟩ | ⟨-, -, h⟩ | ⟨-, -, -, h⟩ | ⟨-, -, -, h⟩ := stopBlock_cases d l s <;> rw [h]
  · exact hs
  · exact hs.of_eq rfl rfl
  · exact offEmpty_of_empty rfl
  · exact offEmpty_of_empty rfl

theorem OffEmpty.payload {p : List Byte} {now : Time} {li ts tp ld : Bool} {s t : State} (hs : OffEmpty s)
    (h : execEvPayload p now li ts tp ld s = .next t) : OffEmpty t := by
  obtain ⟨-, c, hb⟩ | rfl | rfl | rfl := execEvPayload_cases h
  · exact hs.startBlock hb
  · exact hs.stopBlock tp ld
  · exact (hs.stopBlock tp ld).of_eq rfl rfl
  · exact hs

/-! ### The tick -/

/-- An Init tick leaves the mode and the FIFO alone, or ends fast-init with the FIFO flushed (42_protocol_fsm.md R172). -/
theorem OffEmpty.initTick {now : Time} {s : State} (hs : OffEmpty s) :
    OffEmpty (onSequencerEvent now (sequencerStep now s).2 (sequencerStep now s).1) := by
  obtain ⟨-, l, h⟩ | ⟨-, h⟩ := sequencerStep_cases now s <;> rw [h]
  · exact hs.of_eq rfl rfl
  · exact offEmpty_of_empty rfl

theorem onFrameEvent_lineMode (now : Time) (ev : FrameEvent) (s : State) :
    (onFrameEvent now ev s).lineMode = s.lineMode ∨ (onFrameEvent now ev s).lineMode = .pulse := by
  obtain ⟨-, h⟩ | ⟨f, -, ⟨-, h⟩ | ⟨-, h⟩⟩ | ⟨r, c, -, ⟨-, h⟩ | ⟨-, h⟩⟩ := onFrameEvent_cases now ev s <;> rw [h]
  · exact .inl rfl
  · exact .inl rfl
  · exact .inl rfl
  · exact .inr rfl
  · exact .inl rfl

theorem drainByte_lineMode {now : Time} {b : Byte} {rest : List Byte} {s t : State} (h : drainByte now b rest s = .ok t) :
    t.lineMode = s.lineMode ∨ t.lineMode = .pulse := by
  obtain ⟨u, ev, hfeed, rfl⟩ := drainByte_cases h
  have hu : u.lineMode = s.lineMode := by rw [feedByte_frame hfeed]
  rw [← hu]
  exact onFrameEvent_lineMode now ev u

/-- A byte is drained only while the line is on, and draining it does not turn the line off. -/
theorem OffEmpty.drain {now : Time} {s t : State} (hs : OffEmpty s) (h : drain now s = .ok t) : OffEmpty t := by
  refine drain_keeps (P := OffEmpty) (fun b rest u v hu _ hfifo hv => offEmpty_of_on ?_) hs h
  have hon : u.lineMode ≠ .off := fun hoff => by simp [hu hoff] at hfifo
  obtain hmode | hmode := drainByte_lineMode hv <;> rw [hmode]
  · exact hon
  · exact LineMode.noConfusion

theorem OffEmpty.checkWatchdog {now : Time} {s t : State} {r : Bool} (hs : OffEmpty s)
    (h : checkWatchdog now s = .ok (t, r)) : OffEmpty t := by
  obtain ⟨-, -, rfl⟩ | ⟨-, -, ⟨-, rfl⟩ | ⟨-, rfl⟩⟩ := checkWatchdog_cases h
  · exact hs
  · exact offEmpty_toInit _ _
  · exact OffEmpty.toStartSession (hs.of_eq rfl rfl) now

theorem OffEmpty.sessionBody {now : Time} {s t : State} (hs : OffEmpty s) (h : sessionBody now s = .ok t) :
    OffEmpty t := by
  obtain ⟨-, hw | ⟨u, hw, rfl⟩⟩ | ⟨-, u, hd, ⟨-, rfl⟩ | ⟨-, rfl⟩⟩ := sessionBody_cases h
  · exact hs.checkWatchdog hw
  · exact (hs.checkWatchdog hw).transmit now
  · exact (hs.drain hd).transmit now
  · exact hs.drain hd

theorem OffEmpty.sessionTick {now : Time} {s t : State} (hs : OffEmpty s) (h : tickInSession now s = .ok t) :
    OffEmpty t := by
  obtain ⟨-, -, rfl⟩ | ⟨-, hbody⟩ := tickInSession_cases h
  · exact OffEmpty.toStartSession (hs.of_eq rfl rfl) now
  · exact hs.sessionBody hbody

theorem OffEmpty.tick {now : Time} {s t : State} (hs : OffEmpty s) (h : tick now s = .ok t) : OffEmpty t := by
  obtain ⟨-, u, ev, hseq, rfl⟩ | ⟨-, hsession⟩ | ⟨-, rfl⟩ := tick_cases h
  · simpa only [hseq] using hs.initTick (now := now)
  · exact hs.sessionTick hsession
  · exact offEmpty_toInit _ _

/-- 10_state.md R51, second sentence, as an invariant of the nine events. -/
theorem OffEmpty.event {i : Instr} {s t : State} (hs : OffEmpty s) (hevent : isEvent i = true) (h : exec i s = .next t) :
    OffEmpty t := by
  cases i with
  | evInit => cases h; exact offEmpty_of_empty rfl
  | evStart now l d =>
    obtain ⟨u, c, hb, rfl⟩ := execEvStart_cases h
    exact (hs.startBlock hb).of_eq rfl rfl
  | evStop d l => cases h; exact (hs.stopBlock d l).of_eq rfl rfl
  | evTick now =>
    obtain ⟨-, -, -, ht⟩ := execEvTick_cases h
    have hcounted : OffEmpty (countTick now s) := hs.of_eq rfl rfl
    exact hcounted.tick ht
  | evRxByte b => cases h; exact hs.rxArrive b
  | evPop => obtain ⟨r, rest, -, rfl⟩ := execEvPop_cases h; exact hs.of_eq rfl rfl
  | evPayload p now li ts tp ld => exact hs.payload h
  | evConnected => cases h; exact hs
  | evDisconnected => cases h; exact hs
  | _ => exact absurd hevent Bool.false_ne_true

/-- Settles O13: the stopped block and the line that is off, each by the nine events. -/
theorem stoppedBlockKeepsItsFields : Obligations.StoppedBlockKeepsItsFields :=
  fun _ _ _ hevent h => ⟨stopped_event_differs hevent h, fun hs => OffEmpty.event hs hevent h⟩

end Sys2Proof.Proofs
end

section
/-! PROOFS. 20_memory.md: the Link Driver's receive port. -/

namespace Sys2Proof.Proofs
open Sys2Proof.Machine Sys2Proof.Safety

/-- EV_RX_BYTE is `rx_arrive` (20_memory.md R64). -/
theorem exec_evRxByte (b : Byte) (s : State) : exec (.evRxByte b) s = .next (rxArrive b s) := rfl

/-- Settles O48: the three clauses are the three cases of a delivered byte, and each case excludes the other two clauses. -/
theorem receivedByteArrives : Obligations.ReceivedByteArrives := by
  intro s b
  rw [exec_evRxByte]
  obtain ⟨hoff, h⟩ | ⟨hon, hfull, h⟩ | ⟨hon, hroom, h⟩ := rxArrive_cases b s <;> rw [h]
  · exact ⟨fun _ => rfl, fun hon => absurd hoff hon, fun hon => absurd hoff hon⟩
  · exact ⟨fun hoff => absurd hoff hon, fun _ _ => rfl, fun _ hroom => absurd hfull hroom⟩
  · exact ⟨fun hoff => absurd hoff hon, fun _ hfull => absurd hfull hroom, fun _ _ => rfl⟩

end Sys2Proof.Proofs
end

section
/-! PROOFS. 30_encoding.md: the encodings that are reserved. -/

namespace Sys2Proof.Proofs
open Sys2Proof.Machine

/-- 30_encoding.md R93: an event whose code is above EV_DISCONNECTED's is refused under that code, whatever the state. -/
theorem exec_of_reservedEventCode {i : Instr} {code : Byte} {args : List Byte}
    (henc : encode i = ⟨.event4, code :: args⟩) (hcode : 0x8 < code) (s : State) :
    exec i s = .refused (.reservedEventCode code) := by
  cases i with
  | evReserved9 | evReservedA | evReservedB | evReservedC | evReservedD | evReservedE | evReservedF => cases henc; rfl
  | evInit | evStart | evStop | evTick | evRxByte | evPop | evPayload | evConnected | evDisconnected =>
    cases henc
    exact absurd hcode (by decide)
  | _ => cases henc

/-- 30_encoding.md R88: a record of another kind or length is never produced. -/
theorem exec_recOtherKind (rec : Record) (s : State) : exec (.recOtherKind rec) s = .refused .malformedRecord := rfl

/-- 10_state.md R36: the line mode's value 3 is never written. -/
theorem exec_lineMode3 (s : State) : exec .lineMode3 s = .refused .lineModeNeverWritten := rfl

/-- Settles O60: each of the seven event rows encodes to a reserved code, and the other two rows only refuse. -/
theorem reservedEncodingsAreRefused : Obligations.ReservedEncodingsAreRefused := by
  intro s rec
  have refused {i : Instr} {code : Byte} (henc : encode i = ⟨.event4, [code]⟩) (hcode : 0x8 < code) :=
    exec_of_reservedEventCode henc hcode s
  exact ⟨refused rfl (by decide), refused rfl (by decide), refused rfl (by decide), refused rfl (by decide),
    refused rfl (by decide), refused rfl (by decide), refused rfl (by decide), exec_recOtherKind rec s, exec_lineMode3 s⟩

end Sys2Proof.Proofs
end

section
/-! PROOFS. 40_frame_codec.md: what FEED answers in each of its cases. -/

namespace Sys2Proof.Proofs
open Sys2Proof.Machine Sys2Proof.Safety

/-- A count that goes up by one, in the form the statements write it. -/
theorem count_ofNat_succ (n : Nat) : BitVec.ofNat 16 n + 1 = (BitVec.ofNat 16 (n + 1) : Count) :=
  (BitVec.ofNat_add n 1).symm

/-- FEED as an instruction drops the event (40_frame_codec.md R120). -/
theorem exec_feed_of_feedByte {s t : State} {b : Byte} {ev : FrameEvent} (h : feedByte b s = .ok (t, ev)) :
    exec (.feed b) s = .next t := by
  have harm : exec (.feed b) s = execFeed b s := rfl
  rw [harm, execFeed, h]

/-- 40_frame_codec.md R121, R122: an echo byte only counts. -/
theorem feedByte_of_echo {s : State} (b : Byte) (hcount : s.inCount.toNat + 1 < 2 ^ 16)
    (hecho : s.inCount.toNat + 1 ≤ s.sentCount.toNat) :
    feedByte b s = .ok ({ s with inCount := s.inCount + 1 }, .more) := by
  obtain ⟨-, hnext, -⟩ := countSucc_some (countSucc_of_lt hcount)
  simp only [feedByte, countSucc_of_lt hcount, hnext, if_pos hecho]

/-! ### The state a genuine byte starts from -/

/-- 40_frame_codec.md R124: the first genuine byte begins the frame anew. -/
theorem genuineStart_of_first {s : State} (hg : s.inCount.toNat + 1 - s.sentCount.toNat = 1) :
    genuineStart s = beginFrame { s with inCount := s.inCount + 1 } := if_pos hg

theorem genuineStart_of_not_first {s : State} (hg : s.inCount.toNat + 1 - s.sentCount.toNat ≠ 1) :
    genuineStart s = { s with inCount := s.inCount + 1 } := if_neg hg

@[simp] theorem genuineStart_inCount (s : State) : (genuineStart s).inCount = s.inCount + 1 := by
  simp only [genuineStart]; split <;> rfl

@[simp] theorem genuineStart_sentCount (s : State) : (genuineStart s).sentCount = s.sentCount := by
  simp only [genuineStart]; split <;> rfl

@[simp] theorem genuineStart_frameBuf (s : State) : (genuineStart s).frameBuf = s.frameBuf := by
  simp only [genuineStart]; split <;> rfl

@[simp] theorem genuineStart_cfg (s : State) : (genuineStart s).cfg = s.cfg := by
  simp only [genuineStart]; split <;> rfl

/-! ### A genuine byte -/

/-- The state after a genuine byte that is stored (40_frame_codec.md R129). -/
def byteStored (s : State) (b : Byte) : State :=
  { summed s b with
    frameBuf := memWrite s.frameBuf (genuineStart s).frameLen.toNat b, frameLen := (genuineStart s).frameLen + 1 }

/-- 40_frame_codec.md R123: past the echo, the genuine index decides between the final byte and the others. -/
theorem feedByte_of_genuine {s : State} (b : Byte) (hcount : s.inCount.toNat + 1 < 2 ^ 16)
    (hgenuine : s.sentCount.toNat < s.inCount.toNat + 1) :
    feedByte b s =
      if s.inCount.toNat + 1 - s.sentCount.toNat = (genuineStart s).expectedLength.toNat + 5
      then finishFrame b (genuineStart s)
      else storeByte (s.inCount.toNat + 1 - s.sentCount.toNat) b (genuineStart s) := by
  obtain ⟨-, hnext, -⟩ := countSucc_some (countSucc_of_lt hcount)
  simp only [feedByte, countSucc_of_lt hcount, hnext, if_neg (not_le.2 hgenuine)]
  rfl

/-- 40_frame_codec.md R125, R128, R129: a genuine byte that is not final and finds room. -/
theorem feedByte_of_room {s : State} (b : Byte) (hcount : s.inCount.toNat + 1 < 2 ^ 16)
    (hgenuine : s.sentCount.toNat < s.inCount.toNat + 1)
    (hnotFinal : s.inCount.toNat + 1 - s.sentCount.toNat ≠ (genuineStart s).expectedLength.toNat + 5)
    (hroom : (genuineStart s).frameLen.toNat < s.cfg.frameCap)
    (hlen : (genuineStart s).frameLen.toNat + 1 < 2 ^ 16) :
    feedByte b s = .ok (byteStored s b, .more) := by
  rw [← genuineStart_cfg s] at hroom
  rw [feedByte_of_genuine b hcount hgenuine, if_neg hnotFinal]
  simp only [storeByte, if_pos hroom, countSucc_of_lt hlen, genuineStart_frameBuf]
  rfl

/-- 40_frame_codec.md R126, R127, R131: the final byte of a frame whose bytes have all been written. -/
theorem feedByte_of_final {s : State} {f : List Byte} (b : Byte) (hcount : s.inCount.toNat + 1 < 2 ^ 16)
    (hgenuine : s.sentCount.toNat < s.inCount.toNat + 1)
    (hfinal : s.inCount.toNat + 1 - s.sentCount.toNat = (genuineStart s).expectedLength.toNat + 5)
    (hbytes : memPrefix s.frameBuf (genuineStart s).frameLen.toNat = some f) :
    feedByte b s = .ok (clearFrame (genuineStart s),
      if b = (genuineStart s).runningChecksum then .frameReady f
      else .checksumError b (genuineStart s).runningChecksum) := by
  rw [feedByte_of_genuine b hcount hgenuine, if_pos hfinal]
  simp only [finishFrame, frameBytes, genuineStart_frameBuf, hbytes]

/-- The bytes below a length are the list that the reads spell. -/
theorem memPrefix_of_reads {m : Memory} {f : List Byte} (h : ∀ a, a < f.length → memRead m a = f[a]?) :
    memPrefix m f.length = some f := by
  have hwritten : (memPrefix m f.length).isSome = true :=
    (memPrefix_isSome m f.length).2 fun a ha => by simp [h a ha, ha]
  obtain ⟨bs, hbs⟩ := Option.isSome_iff_exists.1 hwritten
  obtain ⟨hlen, hreads⟩ := memPrefix_spec hbs
  have hsame : bs = f := by
    refine List.ext_getElem? fun a => ?_
    by_cases ha : a < f.length
    · rw [← hreads a ha, h a ha]
    · rw [List.getElem?_eq_none (by omega), List.getElem?_eq_none (by omega)]
  rw [hbs, hsame]

/-! ### The statements about one FEED -/

/-- Settles O38: the echo case of FEED. -/
theorem feedDiscardsAnEcho : Obligations.FeedDiscardsAnEcho := by
  intro s b hcount hecho
  have hfeed := feedByte_of_echo b hcount hecho
  exact ⟨exec_feed_of_feedByte hfeed, hfeed⟩

/-- Settles O43: EOF_RESET is `clearFrame`. -/
theorem eofResetStartsANewFrame : Obligations.EofResetStartsANewFrame := fun _ => rfl

/-- Settles O39: the store case of FEED, from the begun frame at `g = 1` and from the frame as it stands otherwise. -/
theorem feedStoresAGenuineByte : Obligations.FeedStoresAGenuineByte := by
  intro s b g len expected sum hcount hgenuine hg hlen hexpected hsum hnotFinal hroom hfits
  subst hg
  have hstart : genuineStart s =
      { s with inCount := s.inCount + 1, frameLen := BitVec.ofNat 16 len, expectedLength := expected,
               runningChecksum := sum } := by
    by_cases hfirst : s.inCount.toNat + 1 - s.sentCount.toNat = 1
    · rw [genuineStart_of_first hfirst, hlen, hexpected, hsum, if_pos hfirst, if_pos hfirst, if_pos hfirst]
      rfl
    · rw [genuineStart_of_not_first hfirst, hlen, hexpected, hsum, if_neg hfirst, if_neg hfirst, if_neg hfirst,
        BitVec.ofNat_toNat, BitVec.setWidth_eq]
  have hstartLen : (genuineStart s).frameLen.toNat = len := by
    rw [hstart]
    exact Nat.mod_eq_of_lt (by omega)
  have hfeed : feedByte b s = .ok (byteStored s b, .more) :=
    feedByte_of_room b hcount hgenuine (by rwa [hstart]) (by rwa [hstartLen]) (by rwa [hstartLen])
  refine ⟨memWrite s.frameBuf len b, ?_, memRead_memWrite_same _ _ _, fun a ha => memRead_memWrite_other _ _ _ _ ha⟩
  rw [exec_feed_of_feedByte hfeed, byteStored, hstartLen, summed, hstart, ← count_ofNat_succ]

/-- Settles O41: the final case of FEED; its index is at least 5, so the frame is not begun anew. -/
theorem feedAnswersAtTheFinalByte : Obligations.FeedAnswersAtTheFinalByte := by
  intro s b f hcount hfinal hlen hreads
  have hstart : genuineStart s = { s with inCount := s.inCount + 1 } := genuineStart_of_not_first (by omega)
  have hbytes : memPrefix s.frameBuf (genuineStart s).frameLen.toNat = some f := by
    rw [hstart, ← hlen]
    exact memPrefix_of_reads hreads
  have hfeed := feedByte_of_final b hcount (by omega) (by rw [hstart]; simp only; omega) hbytes
  rw [hstart] at hfeed
  exact ⟨exec_feed_of_feedByte hfeed, hfeed⟩

end Sys2Proof.Proofs
end

section
/-! PROOFS. 40_frame_codec.md: FEED of a list of bytes, from the echo to the checksum. -/

namespace Sys2Proof.Proofs
open Sys2Proof.Machine Sys2Proof.Safety

/-! ### FEED of a list -/

theorem feedList_cons_of_ok {b : Byte} {bs : List Byte} {s t u : State} {ev : FrameEvent} {evs : List FrameEvent}
    (hb : feedByte b s = .ok (t, ev)) (hbs : feedList bs t = .ok (u, evs)) :
    feedList (b :: bs) s = .ok (u, ev :: evs) := by
  simp only [feedList, hb, hbs]

theorem feedList_append_of_ok {xs ys : List Byte} {s t u : State} {es fs : List FrameEvent}
    (hx : feedList xs s = .ok (t, es)) (hy : feedList ys t = .ok (u, fs)) :
    feedList (xs ++ ys) s = .ok (u, es ++ fs) := by
  induction xs generalizing s es with
  | nil =>
    cases hx
    exact hy
  | cons b bs ih =>
    simp only [feedList] at hx
    split at hx
    · cases hx
    · next v ev hb =>
      split at hx
      · cases hx
      · next w evs hbs =>
        cases hx
        exact feedList_cons_of_ok hb (ih hbs)

/-- 40_frame_codec.md R134 in the middle of an echo: as many bytes as are still owed to it only count. -/
theorem feedList_of_echo {s : State} {echo : List Byte} (h : s.inCount.toNat + echo.length ≤ s.sentCount.toNat) :
    feedList echo s =
      .ok ({ s with inCount := s.inCount + BitVec.ofNat 16 echo.length }, List.replicate echo.length .more) := by
  induction echo generalizing s with
  | nil => simp [feedList]
  | cons b bs ih =>
    have hsent : s.sentCount.toNat < 2 ^ 16 := s.sentCount.isLt
    rw [List.length_cons] at h
    have hcount : s.inCount.toNat + 1 < 2 ^ 16 := by omega
    obtain ⟨-, hnext, -⟩ := countSucc_some (countSucc_of_lt hcount)
    have hrest := ih (s := { s with inCount := s.inCount + 1 }) (by simp only [hnext]; omega)
    rw [feedList_cons_of_ok (feedByte_of_echo b hcount (by omega)) hrest]
    have hsum : s.inCount + 1 + BitVec.ofNat 16 bs.length = s.inCount + BitVec.ofNat 16 (bs.length + 1) := by
      rw [← count_ofNat_succ, add_assoc, add_comm 1]
    simp only [hsum, List.length_cons, List.replicate_succ]

/-- Settles O44: an echo that starts at a frame boundary. -/
theorem echoBytesNeverEnterTheFrame : Obligations.EchoBytesNeverEnterTheFrame := by
  intro s echo hboundary hlen
  have hecho := feedList_of_echo (s := s) (echo := echo) (by rw [hboundary]; simpa using hlen)
  rwa [hboundary, zero_add] at hecho

/-! ### A frame in the buffer -/

theorem sum256_append_singleton (bs : List Byte) (b : Byte) : sum256 (bs ++ [b]) = sum256 bs + b := by
  simp [sum256]

/-- The byte at offset 3 is the fourth one taken, and it stays (40_frame_codec.md R125). -/
theorem getD_three_append_singleton (bs : List Byte) (b : Byte) :
    (bs ++ [b]).getD 3 0 = if bs.length + 1 = 4 then b else bs.getD 3 0 := by
  obtain hlt | heq | hgt := lt_trichotomy bs.length 3
  · rw [if_neg (by omega), List.getD_eq_default _ _ (by simpa using hlt), List.getD_eq_default _ _ hlt.le]
  · rw [if_pos (by omega), List.getD_append_right _ _ _ _ heq.le, heq]
    rfl
  · rw [if_neg (by omega), List.getD_append _ _ _ _ hgt]

/-- `t` has taken exactly the genuine bytes `ds` since the frame boundary, under the configuration and the `sent_count` of `s`.
The frame's fields are those the next byte starts from, so that at `ds = []` nothing is said of what an earlier frame left in
them (40_frame_codec.md R124). -/
structure Assembled (s : State) (ds : List Byte) (t : State) : Prop where
  cfg : t.cfg = s.cfg
  sentCount : t.sentCount = s.sentCount
  inCount : t.inCount.toNat = s.sentCount.toNat + ds.length
  frameLen : (genuineStart t).frameLen.toNat = ds.length
  checksum : (genuineStart t).runningChecksum = sum256 ds
  expectedLength : (genuineStart t).expectedLength = ds.getD 3 0
  bytes : memPrefix t.frameBuf ds.length = some ds

/-- The genuine index of the next byte. -/
theorem Assembled.index {s t : State} {ds : List Byte} (h : Assembled s ds t) :
    t.inCount.toNat + 1 - t.sentCount.toNat = ds.length + 1 := by
  rw [h.inCount, h.sentCount]
  omega

theorem Assembled.genuine {s t : State} {ds : List Byte} (h : Assembled s ds t) :
    t.sentCount.toNat < t.inCount.toNat + 1 := by
  rw [h.inCount, h.sentCount]
  omega

/-- Nothing genuine has been taken when the echo is over. -/
theorem assembled_nil {s t : State} (hcfg : t.cfg = s.cfg) (hsent : t.sentCount = s.sentCount)
    (hin : t.inCount = s.sentCount) : Assembled s [] t := by
  have hstart : genuineStart t = beginFrame { t with inCount := t.inCount + 1 } :=
    genuineStart_of_first (by rw [hin, hsent]; omega)
  exact ⟨hcfg, hsent, by simp [hin], by simp [hstart], by simp [hstart, sum256], by simp [hstart], rfl⟩

/-- A byte that is not the frame's last and finds room is appended. -/
theorem Assembled.feed {s t : State} {ds : List Byte} (h : Assembled s ds t) (b : Byte)
    (hcount : s.sentCount.toNat + ds.length + 1 < 2 ^ 16) (hnotFinal : ds.length ≠ (ds.getD 3 0).toNat + 4)
    (hroom : ds.length < s.cfg.frameCap) :
    feedByte b t = .ok (byteStored t b, .more) ∧ Assembled s (ds ++ [b]) (byteStored t b) := by
  have hin : t.inCount.toNat + 1 < 2 ^ 16 := by rw [h.inCount]; omega
  have hlen : (genuineStart t).frameLen.toNat + 1 < 2 ^ 16 := by rw [h.frameLen]; omega
  obtain ⟨-, hinNext, -⟩ := countSucc_some (countSucc_of_lt hin)
  obtain ⟨-, hlenNext, -⟩ := countSucc_some (countSucc_of_lt hlen)
  have hsent : (byteStored t b).sentCount = s.sentCount := (genuineStart_sentCount t).trans h.sentCount
  have hinStored : (byteStored t b).inCount.toNat = s.sentCount.toNat + ds.length + 1 := by
    have hcounted : (byteStored t b).inCount = t.inCount + 1 := genuineStart_inCount t
    rw [hcounted, hinNext, h.inCount]
  have hstart : genuineStart (byteStored t b) = { byteStored t b with inCount := (byteStored t b).inCount + 1 } :=
    genuineStart_of_not_first (by rw [hinStored, hsent]; omega)
  refine ⟨feedByte_of_room b hin h.genuine ?_ ?_ hlen, (genuineStart_cfg t).trans h.cfg, hsent, ?_, ?_, ?_, ?_, ?_⟩
  · rw [h.index, h.expectedLength]
    omega
  · rw [h.frameLen, h.cfg]
    exact hroom
  · rw [hinStored, List.length_append, List.length_singleton, Nat.add_assoc]
  · rw [hstart, List.length_append, List.length_singleton, ← h.frameLen]
    exact hlenNext
  · rw [hstart, sum256_append_singleton, ← h.checksum]
    rfl
  · rw [hstart]
    simp only [byteStored, summed, h.index, h.expectedLength]
    exact (getD_three_append_singleton ds b).symm
  · rw [List.length_append]
    simp only [byteStored, h.frameLen]
    exact memPrefix_succ_memWrite b h.bytes

/-- The rest of a frame that declares its own length and fits the buffer is appended (40_frame_codec.md R135). -/
theorem Assembled.feedRest {s t : State} {ds rest : List Byte} {n : Byte} (h : Assembled s ds t)
    (hdeclared : (ds ++ rest)[3]? = some n) (hlen : (ds ++ rest).length = n.toNat + 4)
    (hroom : (ds ++ rest).length ≤ s.cfg.frameCap) (hcount : s.sentCount.toNat + (ds ++ rest).length < 2 ^ 16) :
    ∃ u, feedList rest t = .ok (u, List.replicate rest.length .more) ∧ Assembled s (ds ++ rest) u := by
  induction rest generalizing ds t with
  | nil => exact ⟨t, rfl, by simpa using h⟩
  | cons b bs ih =>
    have hmiddle : ds.length < (ds ++ b :: bs).length := by simp
    have hnotFinal : ds.length ≠ (ds.getD 3 0).toNat + 4 := by
      by_cases hshort : 3 < ds.length
      · rw [List.getElem?_append_left hshort] at hdeclared
        rw [List.getD_eq_getElem?_getD, hdeclared, Option.getD_some]
        omega
      · omega
    obtain ⟨hb, hnext⟩ := h.feed b (by omega) hnotFinal (by omega)
    rw [List.append_cons] at hdeclared hlen hroom hcount ⊢
    obtain ⟨u, hbs, hall⟩ := ih hnext hdeclared hlen hroom hcount
    exact ⟨u, feedList_cons_of_ok hb hbs, hall⟩

/-- The byte after a whole frame is compared with the frame's sum (40_frame_codec.md R126, R127). -/
theorem Assembled.finish {s t : State} {f : List Byte} (h : Assembled s f t) (c : Byte)
    (hcount : s.sentCount.toNat + f.length + 1 < 2 ^ 16) (hwhole : f.length = (f.getD 3 0).toNat + 4) :
    feedByte c t = .ok (clearFrame (genuineStart t),
      if c = sum256 f then .frameReady f else .checksumError c (sum256 f)) := by
  rw [← h.checksum]
  refine feedByte_of_final c ?_ h.genuine ?_ ?_
  · rw [h.inCount]
    exact hcount
  · rw [h.index, h.expectedLength]
    omega
  · rw [h.frameLen]
    exact h.bytes

/-- Settles O45: the echo, then the frame byte by byte, then its checksum. -/
theorem checksumDecidesTheFrame : Obligations.ChecksumDecidesTheFrame := by
  intro s echo frame c n hboundary hecho hdeclared hlen hroom hcount
  have hechoed := echoBytesNeverEnterTheFrame s echo hboundary hecho.le
  have hbegun : Assembled s [] { s with inCount := BitVec.ofNat 16 echo.length } :=
    assembled_nil rfl rfl (by simp [hecho])
  obtain ⟨u, hframe, hall⟩ := hbegun.feedRest (rest := frame) hdeclared hlen hroom (by rw [List.nil_append]; omega)
  have hwhole : frame.length = (frame.getD 3 0).toNat + 4 := by
    rw [List.getD_eq_getElem?_getD, hdeclared, Option.getD_some, hlen]
  have hlast := hall.finish c (by rw [List.nil_append]; omega) hwhole
  refine ⟨clearFrame (genuineStart u), ?_, rfl, rfl, rfl, rfl, rfl⟩
  rw [List.replicate_add]
  exact feedList_append_of_ok (feedList_append_of_ok hechoed hframe) (feedList_cons_of_ok hlast rfl)

end Sys2Proof.Proofs
end

section
/-! PROOFS. 41_fast_init.md: one SEQ_STEP by its window, and the calls of one sequence. -/

namespace Sys2Proof.Proofs
open Sys2Proof.Machine Sys2Proof.Safety

/-! ### The latch -/

theorem sequencer_of_seqStarted {s : State} {start : Time} (hlatch : s.seqStarted = true)
    (hstart : s.fastinitStart = some start) : s.sequencer = .latched start := by
  cases h : s.sequencer with
  | idle last => simp [h] at hlatch
  | latched t => simpa [h] using hstart

/-- The start a call belongs to is the latched one. -/
theorem sequenceStart_of_latched {s : State} {start : Time} (now : Time) (h : s.sequencer = .latched start) :
    sequenceStart now s = start := by
  simp only [sequenceStart, h]

/-- A call that finds no latch begins a sequence at its own time. -/
theorem sequenceStart_of_not_seqStarted {s : State} (now : Time) (h : s.seqStarted = false) :
    sequenceStart now s = now := by
  cases hq : s.sequencer with
  | idle last => simp only [sequenceStart, hq]
  | latched t => simp [hq] at h

/-! ### One call -/

theorem exec_seqStep (now : Time) (s : State) : exec (.seqStep now) s = .next (sequencerStep now s).1 := rfl

/-- Before `T1 + 2·T2` a call stays in progress, at one of the two levels. -/
theorem sequencerStep_of_lt {s : State} {now : Time}
    (h : now.toNat < (sequenceStart now s).toNat + (s.cfg.t1Us + 2 * s.cfg.t2Us)) :
    ∃ l, sequencerStep now s = (sequencing now l s, .inProgress) := by
  rw [sequencerStep_windows, if_pos h]
  split
  · exact ⟨.high, rfl⟩
  · split
    · exact ⟨.low, rfl⟩
    · exact ⟨.high, rfl⟩

/-- From `T1 + 2·T2` on a call is done. -/
theorem sequencerStep_of_le {s : State} {now : Time}
    (h : (sequenceStart now s).toNat + (s.cfg.t1Us + 2 * s.cfg.t2Us) ≤ now.toNat) :
    sequencerStep now s = (sequenceDone now s, .done) := by
  rw [sequencerStep_windows, if_neg (by omega), if_neg (by omega), if_neg (by omega)]

/-- Settles O46: the three windows in order, and `sequencerStep_of_le` after them. -/
theorem sequencerFollowsItsWindows : Obligations.SequencerFollowsItsWindows := by
  intro s now
  rw [exec_seqStep]
  refine ⟨fun hfirst => ?_, fun hopen hlow => ?_, fun hopen hlast => ?_, fun hover => ?_⟩
  · rw [sequencerStep_windows, if_pos hfirst]
  · rw [sequencerStep_windows, if_neg (by omega), if_pos hlow]
  · rw [sequencerStep_windows, if_neg (by omega), if_neg (by omega), if_pos hlast]
  · rw [sequencerStep_of_le hover]

/-! ### The calls of one sequence -/

theorem sequencerRun_cons_of_eq {t : Time} {ts : List Time} {s u v : State} {ev : SequencerEvent}
    {evs : List SequencerEvent} (ht : sequencerStep t s = (u, ev)) (hts : sequencerRun ts u = (v, evs)) :
    sequencerRun (t :: ts) s = (v, ev :: evs) := by
  simp only [sequencerRun, ht, hts]

/-- 41_fast_init.md R153 in a latched sequence: a call before `T1 + 2·T2` leaves the latch and its start as they are, so each
later call is compared with the same end. -/
theorem sequencerRun_of_latched {s : State} {start last : Time} {ts : List Time} (hlatched : s.sequencer = .latched start)
    (hbefore : ∀ t ∈ ts, t.toNat < start.toNat + (s.cfg.t1Us + 2 * s.cfg.t2Us))
    (hlast : start.toNat + (s.cfg.t1Us + 2 * s.cfg.t2Us) ≤ last.toNat) :
    ∃ u, sequencerRun (ts ++ [last]) s = (u, List.replicate ts.length .inProgress ++ [.done]) ∧
      u.sequencer = .idle (some start) ∧ u.lineLevel = .high := by
  induction ts generalizing s with
  | nil =>
    have hstart := sequenceStart_of_latched last hlatched
    have hdone := sequencerStep_of_le (s := s) (now := last) (by rwa [hstart])
    exact ⟨sequenceDone last s, sequencerRun_cons_of_eq hdone rfl, by simp only [sequenceDone, hstart], rfl⟩
  | cons t ts ih =>
    obtain ⟨hnow, hlater⟩ := List.forall_mem_cons.mp hbefore
    have hstart := sequenceStart_of_latched t hlatched
    obtain ⟨l, hstep⟩ := sequencerStep_of_lt (s := s) (now := t) (by rwa [hstart])
    have hkept : (sequencing t l s).sequencer = .latched start := by simp only [sequencing, hstart]
    obtain ⟨u, hrun, hend⟩ := ih hkept hlater hlast
    exact ⟨u, sequencerRun_cons_of_eq hstep hrun, hend⟩

/-- Settles O47: `sequencerRun_of_latched`, and the call that begins a sequence by whether its windows are empty. -/
theorem sequencerIsDoneOncePerSequence : Obligations.SequencerIsDoneOncePerSequence := by
  refine ⟨fun s start ts last hlatch hstart hbefore hlast => ?_, fun s first hidle => ?_⟩
  · obtain ⟨u, hrun, hend, hlevel⟩ := sequencerRun_of_latched (sequencer_of_seqStarted hlatch hstart) hbefore hlast
    exact ⟨u, hrun, by simp [hend], by simp [hend], hlevel⟩
  · have hstart := sequenceStart_of_not_seqStarted first hidle
    by_cases hempty : s.cfg.t1Us + 2 * s.cfg.t2Us = 0
    · have hdone := sequencerStep_of_le (s := s) (now := first) (by rw [hstart]; omega)
      exact ⟨sequenceDone first s, by rw [hdone, if_pos hempty], by simp [sequenceDone, hstart],
        (decide_eq_false (not_not_intro hempty)).symm⟩
    · obtain ⟨l, hstep⟩ := sequencerStep_of_lt (s := s) (now := first) (by rw [hstart]; omega)
      exact ⟨sequencing first l s, by rw [hstep, if_neg hempty], by simp [sequencing, hstart],
        (decide_eq_true hempty).symm⟩

end Sys2Proof.Proofs
end

section
/-! PROOFS. 42_protocol_fsm.md: the transmission step, and the arm of an enabled tick. -/

namespace Sys2Proof.Proofs
open Sys2Proof.Machine Sys2Proof.Safety

/-! ### The transmission step -/

/-- TX_STEP is the transmission step (42_protocol_fsm.md R180). -/
theorem exec_txStep (now : Time) (s : State) : exec (.txStep now) s = .next (transmit now s) := rfl

/-- 42_protocol_fsm.md R180: a command that is sent is not sent again. -/
theorem transmit_of_sent {s : State} (now : Time) (hsent : (commandOf s.pstate).length ≤ s.sentCount.toNat) :
    transmit now s = s := by
  simp only [transmit, if_pos hsent]

/-- 42_protocol_fsm.md R181: nothing is sent before the quiet period is over. -/
theorem transmit_of_notQuiet {s : State} {now : Time} (hquiet : now.toNat < s.lastFrameEnd.toNat + s.cfg.t4Us) :
    transmit now s = s := by
  have hnot : quietOver now s = false := decide_eq_false (not_le.2 hquiet)
  simp [transmit, hnot]

/-- 42_protocol_fsm.md R183: after the quiet period the next chunk of the unsent bytes is sent. -/
theorem transmit_of_due {s : State} {now : Time} (hunsent : s.sentCount.toNat < (commandOf s.pstate).length)
    (hquiet : s.lastFrameEnd.toNat + s.cfg.t4Us ≤ now.toNat) {n : Nat}
    (hn : chunkLength s.cfg.txChunk ((commandOf s.pstate).length - s.sentCount.toNat) = n) :
    transmit now s = { s with
      sentCount := BitVec.ofNat 16 (s.sentCount.toNat + n),
      trace := s.trace ++ (((commandOf s.pstate).drop s.sentCount.toNat).take n).map .tx } := by
  have hover : quietOver now s = true := decide_eq_true hquiet
  simp only [transmit, if_neg (not_le.2 hunsent), if_pos hover, hn]
  rfl

/-- A chunk is what is left of the command, or the chunk's first bytes of it. -/
theorem take_chunkLength_bytes (n : Nat) (unsent : List Byte) :
    unsent.take (chunkLength (.bytes n) unsent.length) = unsent.take n :=
  List.take_eq_take_min.symm

/-- Settles O34: the command is sent, or the quiet period is not over, or a chunk of either form is due. -/
theorem transmissionStepSendsTheCommand : Obligations.TransmissionStepSendsTheCommand := by
  intro s now cmd hcmd
  obtain rfl : cmd = commandOf s.pstate := hcmd
  rw [exec_txStep]
  refine ⟨fun hsent => ?_, fun _ hquiet => ?_, fun hunsent hquiet hall => ?_, fun n hunsent hquiet hbytes => ?_⟩
  · rw [transmit_of_sent now hsent]
  · rw [transmit_of_notQuiet hquiet]
  · have hchunk := congrArg (chunkLength · ((commandOf s.pstate).length - s.sentCount.toNat)) hall
    rw [transmit_of_due hunsent hquiet hchunk]
    simp only [chunkLength, ← List.length_drop, List.take_length]
    rw [List.length_drop, Nat.add_sub_cancel' hunsent.le]
  · have hchunk := congrArg (chunkLength · ((commandOf s.pstate).length - s.sentCount.toNat)) hbytes
    rw [transmit_of_due hunsent hquiet hchunk, ← List.length_drop, take_chunkLength_bytes]
    rfl

/-! ### The enabled tick -/

/-- A micro-operation that stores a deadline runs at every `now` whose deadline fits (10_state.md R45). -/
theorem withDeadline_of_fits {now : Time} {s : State} (r : Except Fault State) (hfits : now.toNat + s.cfg.t3Us < 2 ^ 64) :
    withDeadline now s r = outcomeOf r :=
  if_pos (decide_eq_true hfits)

/-- 43_tick_scheduler.md R221: a tick that nothing refuses is counted and taken. -/
theorem exec_evTick_of_enabled {now : Time} {s : State} (hrunning : s.running = true)
    (hdue : nominalTime s ≤ now.toNat) (hsample : s.lastSample.toNat ≤ now.toNat)
    (hfits : now.toNat + s.cfg.t3Us < 2 ^ 64) :
    exec (.evTick now) s = outcomeOf (tick now (countTick now s)) := by
  have harm : exec (.evTick now) s = execEvTick now s := rfl
  rw [harm, execEvTick, if_pos hrunning, if_neg (not_lt.2 hdue), sampleRefusal_none.2 ⟨hsample, hfits⟩]

/-- The micro-operation that ticks a state (42_protocol_fsm.md R170). -/
def tickInstr (now : Time) (p : PState) : Instr :=
  match p with
  | .init => .tickInit now
  | .startSession => .tickSession now
  | .active => .tickSession now
  | .illegal => .tickIllegal now

/-- 42_protocol_fsm.md R170: the tick of a state is the micro-operation of its `pstate`. -/
theorem exec_tickInstr {now : Time} {s : State} (hfits : now.toNat + s.cfg.t3Us < 2 ^ 64) :
    exec (tickInstr now s.pstate) s = outcomeOf (tick now s) := by
  cases hp : s.pstate with
  | init | startSession | active | illegal =>
    simp only [tick, hp]
    exact withDeadline_of_fits _ hfits

/-- Settles O23: the counted tick is the arm of its state, run at the counted state. -/
theorem tickRunsTheArmOfItsState : Obligations.TickRunsTheArmOfItsState := by
  intro s now hrunning hdue hsample hfits
  rw [exec_evTick_of_enabled hrunning hdue hsample hfits]
  exact (exec_tickInstr (s := countTick now s) hfits).symm

end Sys2Proof.Proofs
end

section
/-! PROOFS. 42_protocol_fsm.md: the steps of a StartSession or Active tick, and that they complete. -/

namespace Sys2Proof.Proofs
open Sys2Proof.Machine Sys2Proof.Safety

/-! ### The codec never faults -/

/-- The part of `Sound` that FEED reads and keeps: with it no byte faults (10_state.md R49, R50). -/
structure CodecSound (s : State) : Prop where
  written : ∀ a, a < s.frameLen.toNat → (memRead s.frameBuf a).isSome = true
  frameCounted : s.frameLen.toNat ≤ s.inCount.toNat
  sentBound : s.sentCount.toNat ≤ 7
  countBound : s.inCount.toNat ≤ s.sentCount.toNat + s.expectedLength.toNat + 4

theorem codecSound_of_sound {s : State} (h : Sound s) : CodecSound s :=
  ⟨h.bufferWritten, h.frameCounted, h.sentBound, h.countBound⟩

/-- At a frame boundary nothing is counted, so nothing is asked of the buffer. -/
theorem codecSound_clearFrame (s : State) : CodecSound (clearFrame s) :=
  ⟨fun _ ha => absurd ha (Nat.not_lt_zero _), le_rfl, Nat.zero_le _, Nat.zero_le _⟩

theorem CodecSound.of_eq {s t : State} (h : CodecSound s) (hbuf : t.frameBuf = s.frameBuf)
    (hlen : t.frameLen = s.frameLen) (hin : t.inCount = s.inCount) (hsent : t.sentCount = s.sentCount)
    (hexpected : t.expectedLength = s.expectedLength) : CodecSound t := by
  obtain ⟨hwritten, hcounted, hsentBound, hcountBound⟩ := h
  exact ⟨by rwa [hbuf, hlen], by rwa [hlen, hin], by rwa [hsent], by rwa [hin, hsent, hexpected]⟩

/-- At most 7 echo bytes and a frame of 260 with its checksum are ever counted. -/
theorem CodecSound.inCount_fits {s : State} (h : CodecSound s) : s.inCount.toNat + 1 < 2 ^ 16 := by
  have hsent := h.sentBound
  have hcount := h.countBound
  have hexpected : s.expectedLength.toNat < 2 ^ 8 := s.expectedLength.isLt
  omega

/-- The frame a genuine byte starts from is the one that stands, or the one begun anew. -/
theorem genuineStart_frameLen_le (s : State) : (genuineStart s).frameLen.toNat ≤ s.frameLen.toNat := by
  by_cases hfirst : s.inCount.toNat + 1 - s.sentCount.toNat = 1
  · rw [genuineStart_of_first hfirst]
    exact Nat.zero_le _
  · rw [genuineStart_of_not_first hfirst]

/-- FEED completes whatever the byte. -/
theorem CodecSound.feed_completes {s : State} (h : CodecSound s) (b : Byte) : ∃ t ev, feedByte b s = .ok (t, ev) := by
  have hcount := h.inCount_fits
  by_cases hgenuine : s.sentCount.toNat < s.inCount.toNat + 1
  · by_cases hfinal : s.inCount.toNat + 1 - s.sentCount.toNat = (genuineStart s).expectedLength.toNat + 5
    · have hwritten : (memPrefix s.frameBuf (genuineStart s).frameLen.toNat).isSome = true :=
        (memPrefix_isSome _ _).2 fun a ha => h.written a (ha.trans_le (genuineStart_frameLen_le s))
      obtain ⟨f, hf⟩ := Option.isSome_iff_exists.1 hwritten
      exact ⟨_, _, feedByte_of_final b hcount hgenuine hfinal hf⟩
    · by_cases hroom : (genuineStart s).frameLen.toNat < s.cfg.frameCap
      · have hlen := genuineStart_frameLen_le s
        have hcounted := h.frameCounted
        exact ⟨_, _, feedByte_of_room b hcount hgenuine hfinal hroom (by omega)⟩
      · rw [← genuineStart_cfg s] at hroom
        rw [feedByte_of_genuine b hcount hgenuine, if_neg hfinal, storeByte, if_neg hroom]
        exact ⟨_, _, rfl⟩
  · exact ⟨_, _, feedByte_of_echo b hcount (not_lt.1 hgenuine)⟩

/-- A genuine byte that is not the final one leaves the count within the declared length (10_state.md R49). -/
theorem CodecSound.summed_countBound {s : State} (h : CodecSound s) (b : Byte)
    (hnotFinal : s.inCount.toNat + 1 - s.sentCount.toNat ≠ (genuineStart s).expectedLength.toNat + 5) :
    s.inCount.toNat + 1 ≤ s.sentCount.toNat + (summed s b).expectedLength.toNat + 4 := by
  have hbound := h.countBound
  by_cases hfourth : s.inCount.toNat + 1 - s.sentCount.toNat = 4
  · omega
  · have hkept : (summed s b).expectedLength = (genuineStart s).expectedLength := if_neg hfourth
    rw [hkept]
    by_cases hfirst : s.inCount.toNat + 1 - s.sentCount.toNat = 1
    · omega
    · rw [genuineStart_of_not_first hfirst] at hnotFinal ⊢
      simp only at hnotFinal ⊢
      omega

/-- FEED keeps what it needs. -/
theorem CodecSound.feed {s t : State} {b : Byte} {ev : FrameEvent} (h : CodecSound s)
    (hfeed : feedByte b s = .ok (t, ev)) : CodecSound t := by
  have hlen := genuineStart_frameLen_le s
  have hcounted := h.frameCounted
  obtain ⟨-, hin, -⟩ := countSucc_some (countSucc_of_lt h.inCount_fits)
  obtain ⟨-, ⟨hecho, -, rfl⟩ | ⟨-, ⟨hnotFinal, -, ⟨-, hfits, rfl⟩ | ⟨-, rfl⟩⟩ | ⟨-, f, -, rfl, -⟩⟩⟩ :=
    feedByte_cases hfeed
  case inl => exact ⟨h.written, by simp only [hin]; omega, h.sentBound, by simp only [hin]; omega⟩
  case inr.inl.inl =>
    obtain ⟨-, hnext, -⟩ := countSucc_some (countSucc_of_lt hfits)
    refine ⟨fun a ha => ?_, ?_, ?_, ?_⟩
    · simp only [hnext] at ha
      simp only [memRead_memWrite]
      split
      · rfl
      · exact h.written a (by omega)
    · simp only [summed, genuineStart_inCount, hnext, hin]
      omega
    · simpa only [summed, genuineStart_sentCount] using h.sentBound
    · simpa only [summed, genuineStart_inCount, genuineStart_sentCount, hin] using h.summed_countBound b hnotFinal
  case inr.inl.inr =>
    refine ⟨fun a ha => ?_, ?_, ?_, ?_⟩
    · simp only [emit_frameBuf, summed, genuineStart_frameBuf]
      exact h.written a (ha.trans_le hlen)
    · simp only [emit_frameLen, emit_inCount, summed, genuineStart_inCount, hin]
      omega
    · simpa only [emit_sentCount, summed, genuineStart_sentCount] using h.sentBound
    · simpa only [emit_inCount, emit_sentCount, emit_expectedLength, summed, genuineStart_inCount, genuineStart_sentCount,
        hin] using h.summed_countBound b hnotFinal
  case inr.inr => exact codecSound_clearFrame _

/-! ### The drain and the checks complete -/

/-- Acting on an event touches the codec only to clear it (42_protocol_fsm.md R187). -/
theorem CodecSound.frameEvent {s : State} (h : CodecSound s) (now : Time) (ev : FrameEvent) :
    CodecSound (onFrameEvent now ev s) := by
  obtain ⟨-, he⟩ | ⟨f, -, ⟨-, he⟩ | ⟨-, he⟩⟩ | ⟨r, c, -, ⟨-, he⟩ | ⟨-, he⟩⟩ := onFrameEvent_cases now ev s <;> rw [he]
  · exact h
  · exact h.of_eq rfl rfl rfl rfl rfl
  · exact h.of_eq rfl rfl rfl rfl rfl
  · exact (codecSound_clearFrame s).of_eq rfl rfl rfl rfl rfl
  · exact h.of_eq rfl rfl rfl rfl rfl

theorem CodecSound.drainByte_completes {s : State} (h : CodecSound s) (now : Time) (b : Byte) (rest : List Byte) :
    ∃ t, drainByte now b rest s = .ok t ∧ CodecSound t := by
  have hpopped : CodecSound { s with rxFifo := rest, watchdogDeadline := deadlineFrom now s } :=
    h.of_eq rfl rfl rfl rfl rfl
  obtain ⟨u, ev, hfeed⟩ := hpopped.feed_completes b
  exact ⟨onFrameEvent now ev u, by simp only [drainByte, hfeed], (hpopped.feed hfeed).frameEvent now ev⟩

/-- 42_protocol_fsm.md R175: a drain takes its bytes without a fault. -/
theorem CodecSound.drain_completes {s : State} (h : CodecSound s) (now : Time) :
    ∃ t, drain now s = .ok t ∧ CodecSound t :=
  drainLoop_ok (fun b rest _ hs _ _ => hs.drainByte_completes now b rest) rfl rfl h

/-- 42_protocol_fsm.md R184: the watchdog check has an arm for each of the two session states. -/
theorem checkWatchdog_completes {s : State} (now : Time) (hp : s.pstate = .startSession ∨ s.pstate = .active) :
    ∃ t r, checkWatchdog now s = .ok (t, r) := by
  by_cases hexpired : watchdogExpired now s = true
  · simp only [checkWatchdog, if_pos hexpired]
    obtain hp | hp := hp <;> rw [hp] <;> exact ⟨_, _, rfl⟩
  · exact ⟨s, false, by rw [checkWatchdog, if_neg hexpired]⟩

theorem CodecSound.sessionBody_completes {s : State} (h : CodecSound s) (now : Time)
    (hp : s.pstate = .startSession ∨ s.pstate = .active) : ∃ t, sessionBody now s = .ok t := by
  by_cases hempty : s.rxFifo = []
  · obtain ⟨t, r, ht⟩ := checkWatchdog_completes now hp
    simp only [sessionBody, if_pos hempty, ht]
    cases r <;> exact ⟨_, rfl⟩
  · obtain ⟨t, ht, -⟩ := h.drain_completes now
    simp only [sessionBody, if_neg hempty, ht]
    split <;> exact ⟨_, rfl⟩

theorem CodecSound.tickInSession_completes {s : State} (h : CodecSound s) (now : Time)
    (hp : s.pstate = .startSession ∨ s.pstate = .active) : ∃ t, tickInSession now s = .ok t := by
  by_cases hactive : s.pstate = .active
  · obtain ⟨-, hcheck⟩ | ⟨-, hcheck⟩ := checkThreshold_cases now s
    · simp only [tickInSession, if_pos hactive, hcheck]
      exact ⟨_, rfl⟩
    · simpa only [tickInSession, if_pos hactive, hcheck] using h.sessionBody_completes now hp
  · simpa only [tickInSession, if_neg hactive] using h.sessionBody_completes now hp

/-! ### The steps as instructions -/

section
variable {now : Time} {s t : State} (hfits : now.toNat + s.cfg.t3Us < 2 ^ 64)
include hfits

theorem exec_tickSession_of_ok (h : tickInSession now s = .ok t) : exec (.tickSession now) s = .next t := by
  have harm : exec (.tickSession now) s = withDeadline now s (tickInSession now s) := rfl
  rw [harm, withDeadline_of_fits _ hfits, h, outcomeOf]

theorem exec_rxDrain_of_ok (h : drain now s = .ok t) : exec (.rxDrain now) s = .next t := by
  have harm : exec (.rxDrain now) s = withDeadline now s (drain now s) := rfl
  rw [harm, withDeadline_of_fits _ hfits, h, outcomeOf]

theorem exec_thresholdCheck_of_fits : exec (.thresholdCheck now) s = .next (checkThreshold now s).1 :=
  withDeadline_of_fits _ hfits

theorem exec_watchdogCheck_of_ok {r : Bool} (h : checkWatchdog now s = .ok (t, r)) :
    exec (.watchdogCheck now) s = .next t := by
  have harm : exec (.watchdogCheck now) s = execWatchdogCheck now s := rfl
  rw [harm, execWatchdogCheck, withDeadline_of_fits _ hfits, h, outcomeOf]

/-- 42_protocol_fsm.md R173 after the threshold check: the drain and, without a transition, a transmission step; or, with no
byte waiting, the watchdog check and, before the deadline, a transmission step. -/
theorem sessionBody_steps (h : sessionBody now s = .ok t) :
    (s.rxFifo ≠ [] → ∃ u, exec (.rxDrain now) s = .next u ∧
      (u.pstate = s.pstate → exec (.txStep now) u = .next t) ∧ (u.pstate ≠ s.pstate → t = u)) ∧
    (s.rxFifo = [] → s.watchdogDeadline.toNat < now.toNat → exec (.watchdogCheck now) s = .next t) ∧
    (s.rxFifo = [] → now.toNat ≤ s.watchdogDeadline.toNat → exec (.txStep now) s = .next t) := by
  obtain ⟨hempty, hexpired | ⟨u, hwaits, rfl⟩⟩ | ⟨hwaiting, u, hdrain, hafter⟩ := sessionBody_cases h
  · obtain ⟨-, hfalse, -⟩ | ⟨hlate, -, -⟩ := checkWatchdog_cases hexpired
    · cases hfalse
    · exact ⟨absurd hempty, fun _ _ => exec_watchdogCheck_of_ok hfits hexpired,
        fun _ hearly => absurd hlate (not_lt.2 hearly)⟩
  · obtain ⟨hearly, -, rfl⟩ | ⟨-, hfalse, -⟩ := checkWatchdog_cases hwaits
    · exact ⟨absurd hempty, fun _ hlate => absurd hlate (not_lt.2 hearly), fun _ _ => exec_txStep now u⟩
    · cases hfalse
  · refine ⟨fun _ => ⟨u, exec_rxDrain_of_ok hfits hdrain, ?_⟩, fun hempty => absurd hempty hwaiting,
      fun hempty => absurd hempty hwaiting⟩
    obtain ⟨hsame, rfl⟩ | ⟨hmoved, rfl⟩ := hafter
    · exact ⟨fun _ => exec_txStep now u, fun hmoved => absurd hsame hmoved⟩
    · exact ⟨fun hsame => absurd hsame hmoved, fun _ => rfl⟩

end

/-- Settles O30: the tick completes by `CodecSound.tickInSession_completes`, and takes the threshold check's way or the body's. -/
theorem sessionTickTakesItsSteps : Obligations.SessionTickTakesItsSteps := by
  intro s now hsound hp hfits
  obtain ⟨t, ht⟩ := (codecSound_of_sound hsound).tickInSession_completes now hp
  refine ⟨t, exec_tickSession_of_ok hfits ht, ?_⟩
  obtain ⟨hactive, hreached, rfl⟩ | ⟨hbelow, hbody⟩ := tickInSession_cases ht
  · refine ⟨fun _ _ => ?_, fun hnot => ?_⟩
    · have hreached : thresholdReached s = true := decide_eq_true hreached
      rw [exec_thresholdCheck_of_fits hfits, checkThreshold, if_pos hreached]
    · obtain hstart | hless := hnot
      · rw [hactive] at hstart
        cases hstart
      · exact absurd hless (not_lt.2 hreached)
  · exact ⟨fun hactive hreached => absurd (hbelow hactive) (not_lt.2 hreached), fun _ => sessionBody_steps hfits hbody⟩

end Sys2Proof.Proofs
end

section
/-! PROOFS. 42_protocol_fsm.md: the status records a tick offers, and the events that offer nothing. -/

namespace Sys2Proof.Proofs
open Sys2Proof.Machine Sys2Proof.Safety

/-! ### Entries of one kind added to the trace -/

/-- From `s` to `t` the trace grows, by `n` entries of the kind `p` among others. -/
def Adds (p : TraceEvent → Bool) (n : Nat) (s t : State) : Prop :=
  ∃ added, t.trace = s.trace ++ added ∧ added.countP p = n

theorem adds_zero_of_trace_eq {p : TraceEvent → Bool} {s t : State} (h : t.trace = s.trace) : Adds p 0 s t :=
  ⟨[], by rw [h, List.append_nil], rfl⟩

theorem Adds.trans {p : TraceEvent → Bool} {m n : Nat} {s t u : State} (hst : Adds p m s t) (htu : Adds p n t u) :
    Adds p (m + n) s u := by
  obtain ⟨es, hes, rfl⟩ := hst
  obtain ⟨fs, hfs, rfl⟩ := htu
  exact ⟨es ++ fs, by rw [hfs, hes, List.append_assoc], List.countP_append⟩

/-! ### What offers no record at all -/

/-- The trace grows by entries none of which is an offered record. -/
abbrev OffersNothing (s t : State) : Prop := Adds isOffer 0 s t

theorem offersNothing_refl (s : State) : OffersNothing s s := adds_zero_of_trace_eq rfl

theorem OffersNothing.trans {s t u : State} (hst : OffersNothing s t) (htu : OffersNothing t u) : OffersNothing s u :=
  Adds.trans hst htu

/-- A status record is a record. -/
theorem isOffer_of_isStatusOffer {e : TraceEvent} (h : isStatusOffer e = true) : isOffer e = true := by
  cases e with
  | offered rec accepted => rfl
  | _ => cases h

theorem OffersNothing.noStatus {s t : State} (h : OffersNothing s t) : Adds isStatusOffer 0 s t := by
  obtain ⟨added, htrace, hcount⟩ := h
  have hle : added.countP isStatusOffer ≤ added.countP isOffer :=
    List.countP_mono_left fun _ _ => isOffer_of_isStatusOffer
  exact ⟨added, htrace, by omega⟩

theorem offersNothing_raise (a : Anomaly) (s : State) : OffersNothing s (raise a s) := ⟨_, rfl, rfl⟩

theorem offersNothing_returnResult (c : ResultCode) (s : State) : OffersNothing s (returnResult c s) := ⟨_, rfl, rfl⟩

theorem offersNothing_txBytes (bs : List Byte) (s : State) : OffersNothing s (txBytes bs s) :=
  ⟨bs.map .tx, rfl, List.countP_eq_zero.2 fun e he => by
    obtain ⟨b, -, rfl⟩ := List.mem_map.1 he
    exact Bool.false_ne_true⟩

theorem offersNothing_setLineMode (m : LineMode) (s : State) : OffersNothing s (setLineMode m s) :=
  ⟨_, rfl, by split <;> rfl⟩

theorem offersNothing_setLineLevel (l : LineLevel) (s : State) : OffersNothing s (setLineLevel l s) :=
  ⟨_, rfl, by split <;> rfl⟩

theorem offersNothing_requestRestart (s : State) : OffersNothing s (requestRestart s) :=
  ⟨_, rfl, by split <;> rfl⟩

theorem offersNothing_rxArrive (b : Byte) (s : State) : OffersNothing s (rxArrive b s) := by
  obtain ⟨-, h⟩ | ⟨-, -, h⟩ | ⟨-, -, h⟩ := rxArrive_cases b s <;> rw [h]
  · exact offersNothing_refl s
  · exact offersNothing_raise _ s
  · exact adds_zero_of_trace_eq rfl

theorem offersNothing_feedByte {s t : State} {b : Byte} {ev : FrameEvent} (h : feedByte b s = .ok (t, ev)) :
    OffersNothing s t := by
  obtain htrace | htrace := feedByte_trace h
  · exact adds_zero_of_trace_eq htrace
  · exact ⟨_, htrace, rfl⟩

theorem offersNothing_transmit (now : Time) (s : State) : OffersNothing s (transmit now s) := by
  obtain h | ⟨-, -, n, -, h⟩ := transmit_cases now s <;> rw [h]
  · exact offersNothing_refl s
  · exact offersNothing_txBytes _ s

theorem offersNothing_sequencerStep (now : Time) (s : State) : OffersNothing s (sequencerStep now s).1 := by
  obtain ⟨-, l, h⟩ | ⟨-, h⟩ := sequencerStep_cases now s <;> rw [h]
  · exact offersNothing_setLineLevel l (latchStart now s)
  · exact offersNothing_setLineLevel .high (latchStart now s)

/-! ### The events that are no tick -/

/-- The line is set to a mode and held idle, as INIT, START and ENTER_INIT do. -/
theorem offersNothing_lineIdle (m : LineMode) (s : State) : OffersNothing s (setLineLevel .high (setLineMode m s)) :=
  (offersNothing_setLineMode m s).trans (offersNothing_setLineLevel .high _)

theorem offersNothing_powerOn (s : State) : OffersNothing s (powerOn s) := offersNothing_lineIdle .off s

theorem offersNothing_sessionReset (now : Time) (s : State) : OffersNothing s (sessionReset now s) :=
  offersNothing_lineIdle .pulse s

theorem offersNothing_startBlock {now : Time} {l d : Bool} {s t : State} {c : ResultCode}
    (h : startBlock now l d s = .ok (t, c)) : OffersNothing s t := by
  obtain ⟨-, ⟨-, -, rfl⟩ | ⟨-, -, -, rfl⟩ | ⟨-, -, -, ⟨-, -, rfl⟩ | ⟨-, -, rfl⟩⟩⟩ := startBlock_cases h
  · exact offersNothing_refl s
  · exact offersNothing_raise .x5 (sampleTime now s)
  · exact offersNothing_sessionReset now (sampleTime now s)
  · have hreset : OffersNothing s (sessionReset now (sampleTime now s)) :=
      offersNothing_sessionReset now (sampleTime now s)
    exact (hreset.trans (offersNothing_setLineMode .off _)).trans (offersNothing_raise .x6 _)

theorem offersNothing_stopBlock (d l : Bool) (s : State) : OffersNothing s (stopBlock d l s).1 := by
  have hoff : OffersNothing s (setLineMode .off { s with running := false }) := offersNothing_setLineMode .off _
  obtain ⟨-, h⟩ | ⟨-, -, h⟩ | ⟨-, -, -, h⟩ | ⟨-, -, -, h⟩ := stopBlock_cases d l s <;> rw [h]
  · exact offersNothing_refl s
  · exact offersNothing_raise .x6 s
  · exact hoff
  · exact hoff.trans (offersNothing_raise .x5 _)

/-- 44_outbound_bridge.md R251: no event but a tick produces a record. -/
theorem offersNothing_event {i : Instr} {s t : State} (hevent : isEvent i = true) (htick : ∀ now, i ≠ .evTick now)
    (h : exec i s = .next t) : OffersNothing s t := by
  cases i with
  | evInit => cases h; exact offersNothing_powerOn s
  | evStart now l d =>
    obtain ⟨u, c, hb, rfl⟩ := execEvStart_cases h
    exact (offersNothing_startBlock hb).trans (offersNothing_returnResult c u)
  | evStop d l => cases h; exact (offersNothing_stopBlock d l s).trans (offersNothing_returnResult _ _)
  | evTick now => exact absurd rfl (htick now)
  | evRxByte b => cases h; exact offersNothing_rxArrive b s
  | evPop => obtain ⟨r, rest, -, rfl⟩ := execEvPop_cases h; exact offersNothing_refl s
  | evPayload p now li ts tp ld =>
    obtain ⟨-, c, hb⟩ | rfl | rfl | rfl := execEvPayload_cases h
    · exact offersNothing_startBlock hb
    · exact offersNothing_stopBlock tp ld s
    · exact (offersNothing_stopBlock tp ld s).trans (offersNothing_requestRestart _)
    · exact offersNothing_refl t
  | evConnected => cases h; exact offersNothing_refl s
  | evDisconnected => cases h; exact offersNothing_refl s
  | _ => exact absurd hevent Bool.false_ne_true

/-! ### One status record per transition -/

/-- From `s` to `t` exactly one status record is offered if the protocol state changed, and none if it did not. -/
def OneStatusPerTransition (s t : State) : Prop := Adds isStatusOffer (if t.pstate = s.pstate then 0 else 1) s t

/-- Without a transition it is enough that no status record is offered. -/
theorem oneStatus_of_stay {s t : State} (hp : t.pstate = s.pstate) (h : Adds isStatusOffer 0 s t) :
    OneStatusPerTransition s t := by
  rwa [OneStatusPerTransition, if_pos hp]

theorem oneStatus_of_move {s t : State} (hp : t.pstate ≠ s.pstate) (h : Adds isStatusOffer 1 s t) :
    OneStatusPerTransition s t := by
  rwa [OneStatusPerTransition, if_neg hp]

theorem OneStatusPerTransition.noStatus {s t : State} (h : OneStatusPerTransition s t) (hp : t.pstate = s.pstate) :
    Adds isStatusOffer 0 s t := by
  rwa [OneStatusPerTransition, if_pos hp] at h

/-- What comes before the first transition offers no status record, so the count is that of what follows. -/
theorem oneStatus_after {s t u : State} (hst : Adds isStatusOffer 0 s t) (hp : t.pstate = s.pstate)
    (htu : OneStatusPerTransition t u) : OneStatusPerTransition s u := by
  rw [OneStatusPerTransition, hp] at htu
  simpa only [OneStatusPerTransition, zero_add] using hst.trans htu

/-- A record offered counts as a status record by its kind (30_encoding.md R85), taken or not. -/
theorem adds_offer (rec : Record) (s : State) :
    Adds isStatusOffer (if rec.getD 0 0 == 0x02 then 1 else 0) s (offer rec s) := by
  obtain ⟨-, h⟩ | ⟨-, h⟩ := offer_cases rec s <;> rw [h] <;> refine ⟨_, rfl, ?_⟩
  · simp [List.countP_cons, isStatusOffer]
  · simp [List.countP_cons, isStatusOffer]

theorem adds_sendStatus (st : Status) (s : State) : Adds isStatusOffer 1 s (sendStatus st s) :=
  adds_offer (statusRecord s.cfg st) s

theorem adds_sendFrame (f : List Byte) (s : State) : Adds isStatusOffer 0 s (sendFrame f s) :=
  adds_offer (frameRecord s.cfg f) s

/-- 42_protocol_fsm.md R187. -/
theorem oneStatus_toInit (now : Time) {s : State} (hp : s.pstate ≠ .init) : OneStatusPerTransition s (toInit now s) := by
  have hentry : Adds isStatusOffer 1 _ (toInit now s) := adds_sendStatus .init _
  exact oneStatus_of_move hp.symm (Adds.trans (offersNothing_lineIdle .pulse s).noStatus hentry)

/-- 42_protocol_fsm.md R188. -/
theorem oneStatus_toStartSession (now : Time) {s : State} (hp : s.pstate ≠ .startSession) :
    OneStatusPerTransition s (toStartSession now s) :=
  oneStatus_of_move hp.symm (adds_sendStatus .startSession _)

/-- 42_protocol_fsm.md R189. -/
theorem oneStatus_toActive (now : Time) {s : State} (hp : s.pstate ≠ .active) :
    OneStatusPerTransition s (toActive now s) :=
  oneStatus_of_move hp.symm (adds_sendStatus .active _)

/-! ### The arms of a tick -/

/-- 42_protocol_fsm.md R171, R172: an Init tick offers the status of the session it starts, if it starts one. -/
theorem oneStatus_tickInInit (now : Time) {s : State} (hp : s.pstate = .init) :
    OneStatusPerTransition s (tickInInit now s) := by
  have hstep := (offersNothing_sequencerStep now s).noStatus
  rw [tickInInit]
  obtain ⟨-, l, h⟩ | ⟨-, h⟩ := sequencerStep_cases now s <;> rw [h] at hstep ⊢
  · exact oneStatus_of_stay rfl hstep
  · refine oneStatus_after hstep rfl (oneStatus_after (offersNothing_lineIdle .uart (flushRx _)).noStatus rfl ?_)
    exact oneStatus_toStartSession now (by simp [hp])

/-- 42_protocol_fsm.md R175, R177 to R179: an event of the codec offers a status record where it makes a transition. -/
theorem oneStatus_onFrameEvent (now : Time) (ev : FrameEvent) (s : State) :
    OneStatusPerTransition s (onFrameEvent now ev s) := by
  obtain ⟨-, h⟩ | ⟨f, -, ⟨hp, h⟩ | ⟨-, h⟩⟩ | ⟨r, c, -, ⟨hp, h⟩ | ⟨-, h⟩⟩ := onFrameEvent_cases now ev s <;> rw [h]
  · exact oneStatus_of_stay rfl (adds_zero_of_trace_eq rfl)
  · exact oneStatus_after (adds_zero_of_trace_eq rfl) rfl (oneStatus_toActive now (by simp [hp]))
  · exact oneStatus_of_stay rfl (adds_sendFrame f { s with lastFrameEnd := now, errorCounter := 0 })
  · exact oneStatus_after (offersNothing_raise (.x1 r c) s).noStatus rfl (oneStatus_toInit now (by simp [hp]))
  · exact oneStatus_of_stay rfl (offersNothing_raise (.x1 r c) s).noStatus

theorem oneStatus_drainByte {now : Time} {b : Byte} {rest : List Byte} {s t : State}
    (h : drainByte now b rest s = .ok t) : OneStatusPerTransition s t := by
  obtain ⟨u, ev, hfeed, rfl⟩ := drainByte_cases h
  have hp : u.pstate = s.pstate := by rw [feedByte_frame hfeed]
  exact oneStatus_after (offersNothing_feedByte hfeed).noStatus hp (oneStatus_onFrameEvent now ev u)

/-- 42_protocol_fsm.md R175: a drain stops after its first transition, so it offers at most that one's status record. -/
theorem oneStatus_drain {now : Time} {s t : State} (h : drain now s = .ok t) : OneStatusPerTransition s t :=
  drain_keeps (P := OneStatusPerTransition s)
    (fun _ _ _ _ hu hp _ hv => oneStatus_after (hu.noStatus hp) hp (oneStatus_drainByte hv))
    (oneStatus_of_stay rfl (adds_zero_of_trace_eq rfl)) h

/-- 42_protocol_fsm.md R184, R185: a timeout makes one transition. -/
theorem oneStatus_checkWatchdog {now : Time} {s t : State} {r : Bool} (h : checkWatchdog now s = .ok (t, r)) :
    OneStatusPerTransition s t := by
  have hraise := (offersNothing_raise (.x2 now s.watchdogDeadline) s).noStatus
  obtain ⟨-, -, rfl⟩ | ⟨-, -, ⟨hp, rfl⟩ | ⟨hp, rfl⟩⟩ := checkWatchdog_cases h
  · exact oneStatus_of_stay rfl (adds_zero_of_trace_eq rfl)
  · exact oneStatus_after hraise rfl (oneStatus_toInit now (by simp [hp]))
  · exact oneStatus_after hraise rfl (oneStatus_toStartSession now (by simp [hp]))

/-- A transmission step makes no transition and offers nothing. -/
theorem oneStatus_transmit (now : Time) (s : State) : OneStatusPerTransition s (transmit now s) :=
  oneStatus_of_stay (by rw [transmit_frame]) (offersNothing_transmit now s).noStatus

theorem oneStatus_sessionBody {now : Time} {s t : State} (h : sessionBody now s = .ok t) :
    OneStatusPerTransition s t := by
  obtain ⟨-, hexpired | ⟨u, hwaits, rfl⟩⟩ | ⟨-, u, hdrain, ⟨hp, rfl⟩ | ⟨-, rfl⟩⟩ := sessionBody_cases h
  · exact oneStatus_checkWatchdog hexpired
  · obtain ⟨-, -, rfl⟩ | ⟨-, hfalse, -⟩ := checkWatchdog_cases hwaits
    · exact oneStatus_transmit now u
    · cases hfalse
  · exact oneStatus_after ((oneStatus_drain hdrain).noStatus hp) hp (oneStatus_transmit now u)
  · exact oneStatus_drain hdrain

/-- 42_protocol_fsm.md R191 for the tick: each arm makes at most one transition, through an entry that offers its status. -/
theorem oneStatus_tick {now : Time} {s t : State} (h : tick now s = .ok t) : OneStatusPerTransition s t := by
  obtain ⟨hp, u, ev, hstep, rfl⟩ | ⟨-, hsession⟩ | ⟨hp, rfl⟩ := tick_cases h
  · simpa only [tickInInit, hstep] using oneStatus_tickInInit now hp
  · obtain ⟨hp, -, rfl⟩ | ⟨-, hbody⟩ := tickInSession_cases hsession
    · exact oneStatus_after (adds_zero_of_trace_eq rfl) rfl (oneStatus_toStartSession now (by simp [hp]))
    · exact oneStatus_sessionBody hbody
  · exact oneStatus_after (offersNothing_raise (.x3 .illegal) s).noStatus rfl
      (oneStatus_toInit now (by simp [hp]))

/-- Settles O26: `oneStatus_tick` from the counted state, whose trace and `pstate` are those of `s`; and the other events. -/
theorem tickOffersOneStatusPerTransition : Obligations.TickOffersOneStatusPerTransition := by
  refine ⟨fun s t now h => ?_, fun _ _ _ hevent htick h => offersNothing_event hevent htick h⟩
  obtain ⟨-, -, -, htaken⟩ := execEvTick_cases h
  have hcounted : OneStatusPerTransition (countTick now s) t := oneStatus_tick htaken
  exact hcounted

end Sys2Proof.Proofs
end

section
/-! PROOFS. 43_tick_scheduler.md: the four outcomes of STOP. -/

namespace Sys2Proof.Proofs
open Sys2Proof.Machine Sys2Proof.Safety

/-- EV_STOP returns the code of `stopBlock` (30_encoding.md R90). -/
theorem exec_evStop (d l : Bool) (s : State) :
    exec (.evStop d l) s = .next (returned (stopBlock d l s).2 (stopBlock d l s).1) := rfl

/-- A STOP of a running block (43_tick_scheduler.md R226, R228), in the states Safety writes. -/
theorem stopBlock_of_running {s : State} (d l : Bool) (hrunning : s.running = true) :
    stopBlock d l s =
      if d then if l then (stopped s, .ok) else (recorded .x5 (stopped s), .errLink)
      else (recorded .x6 s, .errTimer) :=
  if_pos hrunning

/-- Settles O20: the draws select the outcome of a running block's STOP, and a stopped block's has none to select. -/
theorem stopHaltsThenReleases : Obligations.StopHaltsThenReleases := by
  intro s timerOk linkOk
  refine ⟨fun hrunning => ⟨?_, ?_, ?_⟩, fun hstopped => ?_⟩
  · rw [exec_evStop, stopBlock_of_running true true hrunning]; rfl
  · rw [exec_evStop, stopBlock_of_running true false hrunning]; rfl
  · rw [exec_evStop, stopBlock_of_running false linkOk hrunning]; rfl
  · rw [exec_evStop, stopBlock_of_stopped timerOk linkOk hstopped]

end Sys2Proof.Proofs
end

section
/-! PROOFS. 43_tick_scheduler.md: every enabled tick completes, and what no tick writes. -/

namespace Sys2Proof.Proofs
open Sys2Proof.Machine Sys2Proof.Safety

/-! ### What no tick writes -/

/-- The fields that no operation of a tick writes (10_state.md R48), every other field at its reset value. -/
def outsideTick (s : State) : State :=
  { State.reset with
    running := s.running, restartReq := s.restartReq, tickOrigin := s.tickOrigin, tickCount := s.tickCount,
    lastSample := s.lastSample, initDone := s.initDone, cfg := s.cfg, resultOut := s.resultOut, popOut := s.popOut,
    stimulus := s.stimulus }

/-- From `s` to `t` only fields that a tick writes have changed, the frame buffer only below address `n`. -/
structure WithinTick (n : Nat) (s t : State) : Prop where
  outside : outsideTick t = outsideTick s
  buffer : ∀ a, n ≤ a → memRead t.frameBuf a = memRead s.frameBuf a

section
variable {n : Nat} {now : Time} {s t u : State}

/-- What a tick does without storing a byte. -/
theorem withinTick_of_eq (houtside : outsideTick t = outsideTick s) (hbuf : t.frameBuf = s.frameBuf) :
    WithinTick n s t :=
  ⟨houtside, fun _ _ => by rw [hbuf]⟩

theorem WithinTick.trans (hst : WithinTick n s t) (htu : WithinTick n t u) : WithinTick n s u :=
  ⟨htu.outside.trans hst.outside, fun a ha => (htu.buffer a ha).trans (hst.buffer a ha)⟩

/-! ### The operations of a tick that store no byte -/

theorem withinTick_transmit (now : Time) (s : State) : WithinTick n s (transmit now s) := by
  rw [transmit_frame]
  exact withinTick_of_eq rfl rfl

theorem withinTick_tickInInit (now : Time) (s : State) : WithinTick n s (tickInInit now s) := by
  rw [tickInInit]
  obtain ⟨-, l, h⟩ | ⟨-, h⟩ := sequencerStep_cases now s <;> rw [h] <;> exact withinTick_of_eq rfl rfl

theorem withinTick_checkWatchdog {r : Bool} (h : checkWatchdog now s = .ok (t, r)) : WithinTick n s t := by
  obtain ⟨-, -, rfl⟩ | ⟨-, -, ⟨-, rfl⟩ | ⟨-, rfl⟩⟩ := checkWatchdog_cases h
  · exact withinTick_of_eq rfl rfl
  · exact withinTick_of_eq rfl rfl
  · exact withinTick_of_eq rfl rfl

/-- Acting on an event of the codec stores no byte and lengthens no frame. -/
theorem withinTick_onFrameEvent (now : Time) (ev : FrameEvent) (s : State) :
    WithinTick n s (onFrameEvent now ev s) ∧ (onFrameEvent now ev s).frameLen.toNat ≤ s.frameLen.toNat := by
  obtain ⟨-, h⟩ | ⟨f, -, ⟨-, h⟩ | ⟨-, h⟩⟩ | ⟨r, c, -, ⟨-, h⟩ | ⟨-, h⟩⟩ := onFrameEvent_cases now ev s <;> rw [h]
  · exact ⟨withinTick_of_eq rfl rfl, le_rfl⟩
  · exact ⟨withinTick_of_eq rfl rfl, le_rfl⟩
  · exact ⟨withinTick_of_eq rfl rfl, le_rfl⟩
  · exact ⟨withinTick_of_eq rfl rfl, Nat.zero_le _⟩
  · exact ⟨withinTick_of_eq rfl rfl, le_rfl⟩

/-! ### The drain -/

/-- FEED stores at most one byte (40_frame_codec.md R129). -/
theorem feedByte_frameLen_le {b : Byte} {ev : FrameEvent} (h : feedByte b s = .ok (t, ev)) :
    t.frameLen.toNat ≤ s.frameLen.toNat + 1 := by
  have hlen := genuineStart_frameLen_le s
  obtain ⟨-, ⟨-, -, rfl⟩ | ⟨-, ⟨-, -, ⟨-, hfits, rfl⟩ | ⟨-, rfl⟩⟩ | ⟨-, f, -, rfl, -⟩⟩⟩ := feedByte_cases h
  · exact Nat.le_succ _
  · obtain ⟨-, hnext, -⟩ := countSucc_some (countSucc_of_lt hfits)
    simp only [hnext]
    omega
  · simp only [emit_frameLen, summed]
    omega
  · exact Nat.zero_le _

/-- FEED stores its byte at `frame_len` or below. -/
theorem withinTick_feedByte {b : Byte} {ev : FrameEvent} (hroom : s.frameLen.toNat < n)
    (h : feedByte b s = .ok (t, ev)) : WithinTick n s t := by
  refine ⟨by rw [feedByte_frame h]; rfl, fun a ha => feedByte_memRead h a ?_⟩
  have hlen := genuineStart_frameLen_le s
  omega

/-- What a drain keeps: the bytes still waiting have room below `n`. -/
structure DrainsWithin (n : Nat) (s t : State) : Prop where
  within : WithinTick n s t
  room : t.frameLen.toNat + t.rxFifo.length ≤ n

theorem DrainsWithin.drainByte {b : Byte} {rest : List Byte} (ht : DrainsWithin n s t) (hfifo : t.rxFifo = b :: rest)
    (h : drainByte now b rest t = .ok u) : DrainsWithin n s u := by
  have hrest := drainByte_rxFifo h
  obtain ⟨v, ev, hfeed, rfl⟩ := drainByte_cases h
  have hroom := ht.room
  simp only [hfifo, List.length_cons] at hroom
  have hpop : WithinTick n t { t with rxFifo := rest, watchdogDeadline := deadlineFrom now t } :=
    withinTick_of_eq rfl rfl
  have hfed : WithinTick n _ v := withinTick_feedByte (by simp only; omega) hfeed
  obtain ⟨hacted, hactedLen⟩ := withinTick_onFrameEvent (n := n) now ev v
  have hfedLen := feedByte_frameLen_le hfeed
  refine ⟨((ht.within.trans hpop).trans hfed).trans hacted, ?_⟩
  simp only [hrest] at hfedLen ⊢
  omega

/-- 42_protocol_fsm.md R175: a drain stores its bytes from `frame_len` on, at most one for each that was waiting. -/
theorem withinTick_drain (hroom : s.frameLen.toNat + s.rxFifo.length ≤ n) (h : drain now s = .ok t) :
    WithinTick n s t :=
  (drain_keeps (P := DrainsWithin n s) (fun _ _ _ _ hu _ hfifo hv => hu.drainByte hfifo hv)
    ⟨withinTick_of_eq rfl rfl, hroom⟩ h).within

/-! ### The tick -/

theorem withinTick_sessionBody (hroom : s.frameLen.toNat + s.rxFifo.length ≤ n) (h : sessionBody now s = .ok t) :
    WithinTick n s t := by
  obtain ⟨-, hexpired | ⟨u, hwaits, rfl⟩⟩ | ⟨-, u, hdrain, ⟨-, rfl⟩ | ⟨-, rfl⟩⟩ := sessionBody_cases h
  · exact withinTick_checkWatchdog hexpired
  · exact (withinTick_checkWatchdog hwaits).trans (withinTick_transmit now u)
  · exact (withinTick_drain hroom hdrain).trans (withinTick_transmit now u)
  · exact withinTick_drain hroom hdrain

/-- 10_state.md R48 for the tick: whichever its arm, it writes only the fields of the block that a tick writes. -/
theorem withinTick_tick (hroom : s.frameLen.toNat + s.rxFifo.length ≤ n) (h : tick now s = .ok t) :
    WithinTick n s t := by
  obtain ⟨-, u, ev, hstep, rfl⟩ | ⟨-, hsession⟩ | ⟨-, rfl⟩ := tick_cases h
  · simpa only [tickInInit, hstep] using withinTick_tickInInit now s
  · obtain ⟨-, -, rfl⟩ | ⟨-, hbody⟩ := tickInSession_cases hsession
    · exact withinTick_of_eq rfl rfl
    · exact withinTick_sessionBody hroom hbody
  · exact withinTick_of_eq rfl rfl

/-- 42_protocol_fsm.md R170: a tick completes in every protocol state, the illegal one among them. -/
theorem CodecSound.tick_completes (h : CodecSound s) (now : Time) : ∃ t, tick now s = .ok t := by
  cases hp : s.pstate with
  | init => exact ⟨tickInInit now s, by simp only [tick, hp]⟩
  | startSession => simpa only [tick, hp] using h.tickInSession_completes now (.inl hp)
  | active => simpa only [tick, hp] using h.tickInSession_completes now (.inr hp)
  | illegal => exact ⟨tickInIllegal now s, by simp only [tick, hp]⟩

end

/-- Settles O24: the counted state is as sound as `s`, so its tick completes, within what a tick writes. -/
theorem enabledTickCompletes : Obligations.EnabledTickCompletes := by
  intro s now hsound hrunning hdue hsample hfits
  have hcounted : CodecSound (countTick now s) := (codecSound_of_sound hsound).of_eq rfl rfl rfl rfl rfl
  obtain ⟨t, ht⟩ := hcounted.tick_completes now
  have hexec : exec (.evTick now) s = .next t := by
    rw [exec_evTick_of_enabled hrunning hdue hsample hfits, ht, outcomeOf]
  obtain ⟨houtside, hbuffer⟩ := withinTick_tick (s := countTick now s) le_rfl ht
  have hkept {α : Type} (field : State → α) : field (outsideTick t) = field (outsideTick (countTick now s)) :=
    congrArg field houtside
  exact ⟨t, hexec, hkept State.tickCount, hkept State.lastSample, hkept State.tickOrigin,
    (hkept State.running).trans hrunning, hkept State.restartReq, hkept State.initDone, hkept State.cfg,
    hkept State.resultOut, hkept State.popOut, hkept State.stimulus, hbuffer⟩

end Sys2Proof.Proofs
end

section
/-! PROOFS. 44_outbound_bridge.md: POP, and that nothing else but INIT removes a record. -/

namespace Sys2Proof.Proofs
open Sys2Proof.Machine Sys2Proof.Safety

/-! ### POP -/

theorem exec_evPop (s : State) : exec .evPop s = execEvPop s := rfl

/-- Settles O51: the two cases of the queue. -/
theorem popHandsOverTheOldestRecord : Obligations.PopHandsOverTheOldestRecord := by
  intro s
  rw [exec_evPop]
  refine ⟨fun hempty => ?_, fun r rest hwaiting => ?_⟩
  · simp only [execEvPop, hempty]
  · simp only [execEvPop, hwaiting]

/-! ### Records are only added -/

/-- From `s` to `t` records are only added behind those waiting, and none is handed over. -/
def OnlyAddsRecords (s t : State) : Prop := (∃ added, t.queue = s.queue ++ added) ∧ t.popOut = s.popOut

theorem onlyAddsRecords_of_eq {s t : State} (hqueue : t.queue = s.queue) (hpopOut : t.popOut = s.popOut) :
    OnlyAddsRecords s t :=
  ⟨⟨[], by rw [hqueue, List.append_nil]⟩, hpopOut⟩

theorem OnlyAddsRecords.trans {s t u : State} (hst : OnlyAddsRecords s t) (htu : OnlyAddsRecords t u) :
    OnlyAddsRecords s u := by
  obtain ⟨⟨xs, hxs⟩, hpopOut⟩ := hst
  obtain ⟨⟨ys, hys⟩, hpopOut'⟩ := htu
  exact ⟨⟨xs ++ ys, by rw [hys, hxs, List.append_assoc]⟩, hpopOut'.trans hpopOut⟩

/-! ### Offers and state entries -/

/-- 44_outbound_bridge.md R252: an accepted record goes behind those waiting, a refused one nowhere. -/
theorem onlyAddsRecords_offer (rec : Record) (s : State) : OnlyAddsRecords s (offer rec s) := by
  obtain ⟨-, h⟩ | ⟨-, h⟩ := offer_cases rec s <;> rw [h]
  · exact onlyAddsRecords_of_eq rfl rfl
  · exact ⟨⟨[rec], rfl⟩, rfl⟩

theorem onlyAddsRecords_offerChecked {rec : Record} {s t : State} (h : offerChecked rec s = .next t) :
    OnlyAddsRecords s t := by
  by_cases hwf : recordWf s.cfg rec = true
  · rw [offerChecked, if_pos hwf] at h
    cases h
    exact onlyAddsRecords_offer rec s
  · rw [offerChecked, if_neg hwf] at h
    cases h

theorem onlyAddsRecords_sendStatus (st : Status) (s : State) : OnlyAddsRecords s (sendStatus st s) :=
  onlyAddsRecords_offer (statusRecord s.cfg st) s

theorem onlyAddsRecords_toInit (now : Time) (s : State) : OnlyAddsRecords s (toInit now s) :=
  onlyAddsRecords_sendStatus .init _

theorem onlyAddsRecords_toStartSession (now : Time) (s : State) : OnlyAddsRecords s (toStartSession now s) :=
  onlyAddsRecords_sendStatus .startSession _

theorem onlyAddsRecords_toActive (now : Time) (s : State) : OnlyAddsRecords s (toActive now s) :=
  onlyAddsRecords_sendStatus .active _

/-! ### The operations of a tick -/

theorem onlyAddsRecords_sequencerStep (now : Time) (s : State) : OnlyAddsRecords s (sequencerStep now s).1 := by
  obtain ⟨-, l, h⟩ | ⟨-, h⟩ := sequencerStep_cases now s <;> rw [h] <;> exact onlyAddsRecords_of_eq rfl rfl

theorem onlyAddsRecords_onSequencerEvent (now : Time) (ev : SequencerEvent) (s : State) :
    OnlyAddsRecords s (onSequencerEvent now ev s) := by
  cases ev with
  | inProgress => exact onlyAddsRecords_of_eq rfl rfl
  | done => exact onlyAddsRecords_toStartSession now (setLineLevel .high (setLineMode .uart (flushRx s)))

theorem onlyAddsRecords_tickInInit (now : Time) (s : State) : OnlyAddsRecords s (tickInInit now s) :=
  (onlyAddsRecords_sequencerStep now s).trans (onlyAddsRecords_onSequencerEvent now _ _)

theorem onlyAddsRecords_feedByte {s t : State} {b : Byte} {ev : FrameEvent} (h : feedByte b s = .ok (t, ev)) :
    OnlyAddsRecords s t := by
  rw [feedByte_frame h]
  exact onlyAddsRecords_of_eq rfl rfl

theorem onlyAddsRecords_onFrameEvent (now : Time) (ev : FrameEvent) (s : State) :
    OnlyAddsRecords s (onFrameEvent now ev s) := by
  obtain ⟨-, h⟩ | ⟨f, -, ⟨-, h⟩ | ⟨-, h⟩⟩ | ⟨r, c, -, ⟨-, h⟩ | ⟨-, h⟩⟩ := onFrameEvent_cases now ev s <;> rw [h]
  · exact onlyAddsRecords_of_eq rfl rfl
  · exact onlyAddsRecords_toActive now { s with lastFrameEnd := now }
  · exact onlyAddsRecords_offer (frameRecord s.cfg f) { s with lastFrameEnd := now, errorCounter := 0 }
  · exact onlyAddsRecords_toInit now { raise (.x1 r c) s with lastFrameEnd := now }
  · exact onlyAddsRecords_of_eq rfl rfl

theorem onlyAddsRecords_drainByte {now : Time} {b : Byte} {rest : List Byte} {s t : State}
    (h : drainByte now b rest s = .ok t) : OnlyAddsRecords s t := by
  obtain ⟨u, ev, hfeed, rfl⟩ := drainByte_cases h
  have hpopped : OnlyAddsRecords s { s with rxFifo := rest, watchdogDeadline := deadlineFrom now s } :=
    onlyAddsRecords_of_eq rfl rfl
  exact (hpopped.trans (onlyAddsRecords_feedByte hfeed)).trans (onlyAddsRecords_onFrameEvent now ev u)

theorem onlyAddsRecords_drain {now : Time} {s t : State} (h : drain now s = .ok t) : OnlyAddsRecords s t :=
  drain_keeps (P := OnlyAddsRecords s) (fun _ _ _ _ hu _ _ hv => hu.trans (onlyAddsRecords_drainByte hv))
    (onlyAddsRecords_of_eq rfl rfl) h

theorem onlyAddsRecords_transmit (now : Time) (s : State) : OnlyAddsRecords s (transmit now s) := by
  rw [transmit_frame]
  exact onlyAddsRecords_of_eq rfl rfl

theorem onlyAddsRecords_checkThreshold (now : Time) (s : State) : OnlyAddsRecords s (checkThreshold now s).1 := by
  obtain ⟨-, h⟩ | ⟨-, h⟩ := checkThreshold_cases now s <;> rw [h]
  · exact onlyAddsRecords_toStartSession now { s with lastFrameEnd := now }
  · exact onlyAddsRecords_of_eq rfl rfl

theorem onlyAddsRecords_checkWatchdog {now : Time} {s t : State} {r : Bool} (h : checkWatchdog now s = .ok (t, r)) :
    OnlyAddsRecords s t := by
  obtain ⟨-, -, rfl⟩ | ⟨-, -, ⟨-, rfl⟩ | ⟨-, rfl⟩⟩ := checkWatchdog_cases h
  · exact onlyAddsRecords_of_eq rfl rfl
  · exact onlyAddsRecords_toInit now { raise (.x2 now s.watchdogDeadline) s with lastFrameEnd := now }
  · exact onlyAddsRecords_toStartSession now { raise (.x2 now s.watchdogDeadline) s with lastFrameEnd := now }

theorem onlyAddsRecords_sessionBody {now : Time} {s t : State} (h : sessionBody now s = .ok t) :
    OnlyAddsRecords s t := by
  obtain ⟨-, hexpired | ⟨u, hwaits, rfl⟩⟩ | ⟨-, u, hdrain, ⟨-, rfl⟩ | ⟨-, rfl⟩⟩ := sessionBody_cases h
  · exact onlyAddsRecords_checkWatchdog hexpired
  · exact (onlyAddsRecords_checkWatchdog hwaits).trans (onlyAddsRecords_transmit now u)
  · exact (onlyAddsRecords_drain hdrain).trans (onlyAddsRecords_transmit now u)
  · exact onlyAddsRecords_drain hdrain

theorem onlyAddsRecords_tickInSession {now : Time} {s t : State} (h : tickInSession now s = .ok t) :
    OnlyAddsRecords s t := by
  obtain ⟨-, -, rfl⟩ | ⟨-, hbody⟩ := tickInSession_cases h
  · exact onlyAddsRecords_toStartSession now { s with lastFrameEnd := now }
  · exact onlyAddsRecords_sessionBody hbody

theorem onlyAddsRecords_tickInIllegal (now : Time) (s : State) : OnlyAddsRecords s (tickInIllegal now s) :=
  onlyAddsRecords_toInit now (raise (.x3 s.pstate) s)

theorem onlyAddsRecords_tick {now : Time} {s t : State} (h : tick now s = .ok t) : OnlyAddsRecords s t := by
  obtain ⟨-, u, ev, hstep, rfl⟩ | ⟨-, hsession⟩ | ⟨-, rfl⟩ := tick_cases h
  · simpa only [tickInInit, hstep] using onlyAddsRecords_tickInInit now s
  · exact onlyAddsRecords_tickInSession hsession
  · exact onlyAddsRecords_toInit now (raise (.x3 .illegal) s)

/-! ### The control entry points and the Link Driver -/

theorem onlyAddsRecords_sessionReset (now : Time) (s : State) : OnlyAddsRecords s (sessionReset now s) :=
  onlyAddsRecords_of_eq (by simp [sessionReset]) (by simp [sessionReset])

/-- 44_outbound_bridge.md R259: a START leaves the queue as it is. -/
theorem onlyAddsRecords_startBlock {now : Time} {l d : Bool} {s t : State} {c : ResultCode}
    (h : startBlock now l d s = .ok (t, c)) : OnlyAddsRecords s t := by
  have hreset : OnlyAddsRecords s (sessionReset now (sampleTime now s)) :=
    onlyAddsRecords_sessionReset now (sampleTime now s)
  obtain ⟨-, ⟨-, -, rfl⟩ | ⟨-, -, -, rfl⟩ | ⟨-, -, -, ⟨-, -, rfl⟩ | ⟨-, -, rfl⟩⟩⟩ := startBlock_cases h
  · exact onlyAddsRecords_of_eq rfl rfl
  · exact onlyAddsRecords_of_eq rfl rfl
  · exact hreset.trans (onlyAddsRecords_of_eq rfl rfl)
  · exact hreset.trans (onlyAddsRecords_of_eq rfl rfl)

/-- 44_outbound_bridge.md R259: a STOP leaves the queue as it is. -/
theorem onlyAddsRecords_stopBlock (d l : Bool) (s : State) : OnlyAddsRecords s (stopBlock d l s).1 := by
  obtain ⟨-, h⟩ | ⟨-, -, h⟩ | ⟨-, -, -, h⟩ | ⟨-, -, -, h⟩ := stopBlock_cases d l s <;> rw [h]
  · exact onlyAddsRecords_of_eq rfl rfl
  · exact onlyAddsRecords_of_eq rfl rfl
  · exact onlyAddsRecords_of_eq rfl rfl
  · exact onlyAddsRecords_of_eq rfl rfl

theorem onlyAddsRecords_dispatchStart {now : Time} {l d : Bool} {s t : State}
    (h : dispatchStart now l d s = .next t) : OnlyAddsRecords s t := by
  obtain ⟨c, hb⟩ := dispatchStart_cases h
  exact onlyAddsRecords_startBlock hb

theorem onlyAddsRecords_payload {p : List Byte} {now : Time} {li ts tp ld : Bool} {s t : State}
    (h : execEvPayload p now li ts tp ld s = .next t) : OnlyAddsRecords s t := by
  obtain ⟨-, c, hb⟩ | rfl | rfl | rfl := execEvPayload_cases h
  · exact onlyAddsRecords_startBlock hb
  · exact onlyAddsRecords_stopBlock tp ld s
  · exact onlyAddsRecords_stopBlock tp ld s
  · exact onlyAddsRecords_of_eq rfl rfl

theorem onlyAddsRecords_rxArriveAll (bs : List Byte) (s : State) : OnlyAddsRecords s (rxArriveAll bs s) := by
  induction bs generalizing s with
  | nil => exact onlyAddsRecords_of_eq rfl rfl
  | cons b bs ih => exact ih (rxArrive b s)

/-! ### Every instruction -/

/-- FEED as an instruction ran the codec's FEED. -/
theorem execFeed_cases {b : Byte} {s t : State} (h : execFeed b s = .next t) : ∃ ev, feedByte b s = .ok (t, ev) := by
  cases hfeed : feedByte b s with
  | error f => simp [execFeed, hfeed] at h
  | ok r => exact ⟨r.2, by simpa [execFeed, hfeed, Prod.ext_iff] using h⟩

/-- WATCHDOG_CHECK as an instruction ran the check. -/
theorem execWatchdogCheck_cases {now : Time} {s t : State} (h : execWatchdogCheck now s = .next t) :
    ∃ r, checkWatchdog now s = .ok (t, r) := by
  obtain ⟨-, hr⟩ := withDeadline_cases h
  cases hcheck : checkWatchdog now s with
  | error f => simp [hcheck] at hr
  | ok r => exact ⟨r.2, by simpa [hcheck, Prod.ext_iff] using hr⟩

/-- 44_outbound_bridge.md R259: an instruction that is neither INIT nor POP removes no record and hands none over. -/
theorem onlyAddsRecords_exec {i : Instr} {s t : State} (hinit : i ≠ .evInit) (hpop : i ≠ .evPop)
    (h : exec i s = .next t) : OnlyAddsRecords s t := by
  cases i with
  | evInit => exact absurd rfl hinit
  | evPop => exact absurd rfl hpop
  | evReserved9 | evReservedA | evReservedB | evReservedC | evReservedD | evReservedE | evReservedF | recOtherKind
  | lineMode3 => cases h
  | evConnected | evDisconnected | evRxByte | eofReset | txWrite | rxFlush | ctrlOther | cmdStartSession
  | cmdReadSensors | pstateInit | pstateStartSession | pstateActive | pstateIllegal | lineOff | linePulse | lineUart
  | resOk | resErrLink | resErrTimer | feContinue | seInProgress =>
    cases h
    exact onlyAddsRecords_of_eq rfl rfl
  | evStart now l d =>
    obtain ⟨u, c, hb, rfl⟩ := execEvStart_cases h
    exact (onlyAddsRecords_startBlock hb).trans (onlyAddsRecords_of_eq rfl rfl)
  | evStop d l | ctrl00 d l | ctrl73 d l | ctrlFF d l | ctrl72 d l => cases h; exact onlyAddsRecords_stopBlock d l s
  | evPayload p now li ts tp ld => exact onlyAddsRecords_payload h
  | ctrl01 now l d | ctrl67 now l d => exact onlyAddsRecords_dispatchStart h
  | evTick now =>
    obtain ⟨-, -, -, htaken⟩ := execEvTick_cases h
    have hcounted : OnlyAddsRecords (countTick now s) t := onlyAddsRecords_tick htaken
    exact hcounted
  | feed b =>
    obtain ⟨ev, hfeed⟩ := execFeed_cases h
    exact onlyAddsRecords_feedByte hfeed
  | seqStep now => cases h; exact onlyAddsRecords_sequencerStep now s
  | txStep now => cases h; exact onlyAddsRecords_transmit now s
  | tickInit now => obtain ⟨-, ⟨⟩⟩ := withDeadline_cases h; exact onlyAddsRecords_tickInInit now s
  | tickSession now => obtain ⟨-, hr⟩ := withDeadline_cases h; exact onlyAddsRecords_tickInSession hr
  | tickIllegal now => obtain ⟨-, ⟨⟩⟩ := withDeadline_cases h; exact onlyAddsRecords_tickInIllegal now s
  | thresholdCheck now => obtain ⟨-, ⟨⟩⟩ := withDeadline_cases h; exact onlyAddsRecords_checkThreshold now s
  | rxDrain now => obtain ⟨-, hr⟩ := withDeadline_cases h; exact onlyAddsRecords_drain hr
  | watchdogCheck now =>
    obtain ⟨r, hcheck⟩ := execWatchdogCheck_cases h
    exact onlyAddsRecords_checkWatchdog hcheck
  | enterInit now => obtain ⟨-, ⟨⟩⟩ := withDeadline_cases h; exact onlyAddsRecords_toInit now s
  | enterStartSession now => obtain ⟨-, ⟨⟩⟩ := withDeadline_cases h; exact onlyAddsRecords_toStartSession now s
  | enterActive now => cases h; exact onlyAddsRecords_toActive now s
  | enqueue | recData | recText => exact onlyAddsRecords_offerChecked h
  | emitStatus | statusInit | statusStartSession | statusActive => cases h; exact onlyAddsRecords_sendStatus _ s
  | emitFrame f => cases h; exact onlyAddsRecords_offer (frameRecord s.cfg f) s
  | respFrame => cases h; exact onlyAddsRecords_rxArriveAll _ s
  | feFrameReady now => cases h; exact onlyAddsRecords_onFrameEvent now _ s
  | feChecksumError now => obtain ⟨-, ⟨⟩⟩ := withDeadline_cases h; exact onlyAddsRecords_onFrameEvent now _ s
  | seDone now => obtain ⟨-, ⟨⟩⟩ := withDeadline_cases h; exact onlyAddsRecords_onSequencerEvent now .done s

/-- Settles O12: INIT empties the queue, POP takes its head, and every other instruction falls under `onlyAddsRecords_exec`. -/
theorem onlyPopAndInitRemoveRecords : Obligations.OnlyPopAndInitRemoveRecords := by
  intro i s t h
  by_cases hinit : i = .evInit
  · subst hinit
    cases h
    exact .inl ⟨rfl, rfl⟩
  · by_cases hpop : i = .evPop
    · subst hpop
      obtain ⟨r, rest, hqueue, rfl⟩ := execEvPop_cases h
      exact .inr (.inl ⟨rfl, r, hqueue, rfl⟩)
    · exact .inr (.inr (onlyAddsRecords_exec hinit hpop h))

end Sys2Proof.Proofs
end

section
/-! PROOFS. 45_command_dispatch.md: the stop and restart bytes, and the payloads and callbacks that are ignored. -/

namespace Sys2Proof.Proofs
open Sys2Proof.Machine Sys2Proof.Safety

/-! ### What selects each action -/

theorem payloadAction_stop {p : List Byte} : payloadAction p = .stop ↔ p = [0x00] ∨ p = [0x73] := by
  match p with
  | [] => simp [payloadAction]
  | [b] =>
    simp only [payloadAction, List.cons.injEq, and_true]
    split
    next hstart => obtain rfl | rfl := hstart <;> decide
    next =>
      split
      next hstop => simpa using hstop
      next hstop => split <;> simpa using hstop
  | _ :: _ :: _ => simp [payloadAction]

theorem payloadAction_restart {p : List Byte} : payloadAction p = .restart ↔ p = [0xFF] ∨ p = [0x72] := by
  match p with
  | [] => simp [payloadAction]
  | [b] =>
    simp only [payloadAction, List.cons.injEq, and_true]
    split
    next hstart => obtain rfl | rfl := hstart <;> decide
    next =>
      split
      next hstop => obtain rfl | rfl := hstop <;> decide
      next =>
        split
        next hrestart => simpa using hrestart
        next hrestart => simpa using hrestart
  | _ :: _ :: _ => simp [payloadAction]

/-- 45_command_dispatch.md R274: a payload that is none of the six commands selects no action. -/
theorem payloadAction_ignore {p : List Byte} (hstart : ¬(p = [0x01] ∨ p = [0x67]))
    (hstop : ¬(p = [0x00] ∨ p = [0x73])) (hrestart : ¬(p = [0xFF] ∨ p = [0x72])) : payloadAction p = .ignore := by
  cases ha : payloadAction p with
  | start => exact absurd (payloadAction_start.1 ha) hstart
  | stop => exact absurd (payloadAction_stop.1 ha) hstop
  | restart => exact absurd (payloadAction_restart.1 ha) hrestart
  | ignore => rfl

/-! ### What each action does -/

/-- The state a STOP leaves, whatever code it returns (43_tick_scheduler.md R226 to R228), in the states Safety writes. -/
theorem stopBlock_state (d l : Bool) (s : State) :
    (stopBlock d l s).1 =
      if s.running then if d then if l then stopped s else recorded .x5 (stopped s) else recorded .x6 s else s := by
  cases hrunning : s.running with
  | false => rw [stopBlock_of_stopped d l hrunning]; rfl
  | true => rw [stopBlock_of_running d l hrunning]; cases d <;> cases l <;> rfl

section
variable {p : List Byte} (now : Time) (a b d l : Bool) (s : State)

theorem exec_evPayload : exec (.evPayload p now a b d l) s = execEvPayload p now a b d l s := rfl

theorem exec_evPayload_of_stop (hp : p = [0x00] ∨ p = [0x73]) :
    exec (.evPayload p now a b d l) s = .next (stopBlock d l s).1 := by
  simp only [exec_evPayload, execEvPayload, payloadAction_stop.2 hp, dispatchStop]

theorem exec_evPayload_of_restart (hp : p = [0xFF] ∨ p = [0x72]) :
    exec (.evPayload p now a b d l) s = .next (restartRequested (stopBlock d l s).1) := by
  simp only [exec_evPayload, execEvPayload, payloadAction_restart.2 hp, dispatchRestart]
  rfl

theorem exec_evPayload_of_ignore (hp : payloadAction p = .ignore) :
    exec (.evPayload p now a b d l) s = .next s := by
  simp only [exec_evPayload, execEvPayload, hp]

end

/-- Settles O56: every stop or restart byte, as its CTRL row or as a payload, leaves what `stopBlock_state` says. -/
theorem stopAndRestartBytesStop : Obligations.StopAndRestartBytesStop := by
  intro s u now d l hu
  rw [← stopBlock_state] at hu
  subst hu
  refine ⟨fun i hi => ?_, fun i hi => ?_⟩
  · obtain rfl | rfl | ⟨a, b, rfl⟩ | ⟨a, b, rfl⟩ := hi
    · rfl
    · rfl
    · exact exec_evPayload_of_stop now a b d l s (.inl rfl)
    · exact exec_evPayload_of_stop now a b d l s (.inr rfl)
  · obtain rfl | rfl | ⟨a, b, rfl⟩ | ⟨a, b, rfl⟩ := hi
    · rfl
    · rfl
    · exact exec_evPayload_of_restart now a b d l s (.inl rfl)
    · exact exec_evPayload_of_restart now a b d l s (.inr rfl)

/-- Settles O57: the callbacks and CTRL_OTHER have no effect by their arms; a payload by `payloadAction_ignore`. -/
theorem otherPayloadsAndCallbacksAreIgnored : Obligations.OtherPayloadsAndCallbacksAreIgnored := by
  intro s p now a b c d
  refine ⟨rfl, rfl, rfl, fun h01 h67 h00 h73 hFF h72 => ?_⟩
  exact exec_evPayload_of_ignore now a b c d s
    (payloadAction_ignore (not_or.2 ⟨h01, h67⟩) (not_or.2 ⟨h00, h73⟩) (not_or.2 ⟨hFF, h72⟩))

end Sys2Proof.Proofs
end

section
/-! PROOFS. 70_reset_and_hazards.md: the power-on values after reset. -/

namespace Sys2Proof.Proofs
open Sys2Proof.Machine Sys2Proof.Safety

@[simp] theorem memRead_nil (a : Nat) : memRead [] a = none := rfl

/-- 10_state.md R22: the bytes of the frame buffer are `unspec` at power-on, so no read of one answers a value. -/
theorem reset_frameBuf_unwritten (a : Nat) : memRead State.reset.frameBuf a = none := memRead_nil a

/-- Settles O6: each register is its entry in `State.reset`, and the frame buffer is `reset_frameBuf_unwritten`. -/
theorem resetHoldsThePowerOnValues : Obligations.ResetHoldsThePowerOnValues :=
  ⟨rfl, rfl, rfl, rfl, rfl, rfl, rfl, rfl, rfl, reset_frameBuf_unwritten, rfl, rfl, rfl, rfl, rfl, rfl, rfl, rfl, rfl⟩

end Sys2Proof.Proofs
end

section
/-! PROOFS. 30_encoding.md: the decoder inverts the encoder, and answers only well-formed instructions. -/

namespace Sys2Proof.Proofs
open Sys2Proof.Machine

/-! ### Decoding what the encoder writes -/

/-- An item whose bytes a reader uses up decodes to what was read. -/
theorem decodeItem_of_decode {it : Item} {i : Instr} (h : decode it.fmt it.bytes = .ok (i, [])) :
    decodeItem it = .ok i := by
  simp [decodeItem, h]

@[simp] theorem decode_event4_cons (code : Byte) (bs : List Byte) : decode .event4 (code :: bs) = decodeEvent code bs := rfl
@[simp] theorem decode_uop5_cons (code : Byte) (bs : List Byte) : decode .uop5 (code :: bs) = decodeUop code bs := rfl
@[simp] theorem decode_payload1_cons (code : Byte) (bs : List Byte) :
    decode .payload1 (code :: bs) = decodeControl code bs := rfl
@[simp] theorem decode_frameEvent_cons (code : Byte) (bs : List Byte) :
    decode .frameEvent (code :: bs) = decodeFrameEvent code bs := rfl
@[simp] theorem decode_sequencerEvent_cons (code : Byte) (bs : List Byte) :
    decode .sequencerEvent (code :: bs) = decodeSequencerEvent code bs := rfl

/-- A payload that is no command byte is read back (45_command_dispatch.md R274). -/
theorem decode_payload_seqBytes {p : List Byte} (h : isCommandPayload p = false) :
    decode .payload (seqBytes p) = .ok (.ctrlOther p, []) := by
  simp [decode, h]

/-- A response frame is read back through its length byte (30_encoding.md R83). -/
theorem decodeResponse_append {h0 h1 h2 c : Byte} {p : List Byte} (h : p.length ≤ 255) :
    decodeResponse (h0 :: h1 :: h2 :: BitVec.ofNat 8 p.length :: (p ++ [c])) = .ok (.respFrame h0 h1 h2 p c, []) := by
  have hlen : (BitVec.ofNat 8 p.length).toNat = p.length := by
    rw [BitVec.toNat_ofNat]
    exact Nat.mod_eq_of_lt (by omega)
  simp only [decodeResponse, andThen_takeByte_cons, hlen]
  rw [andThen_of_ok (takeBytes_append p [c])]
  rfl

/-! ### Records -/

/-- A record of kind Data or Text with at most 68 payload bytes is no other-kind record (30_encoding.md R88). -/
theorem isOtherKindRecord_recordBytes {kind : Byte} {p : List Byte} (hkind : kind = 0x01 ∨ kind = 0x02)
    (hp : p.length ≤ 68) : isOtherKindRecord (recordBytes kind p) = false := by
  have hlen : p.length % 256 = p.length := Nat.mod_eq_of_lt (by omega)
  have hfits : ¬68 < p.length := by omega
  obtain rfl | rfl := hkind <;> simp [isOtherKindRecord, recordBytes, hlen, hfits]

/-- A record's payload lies after its kind and its length, and zeros after it (30_encoding.md R85). -/
theorem decodeRecord_recordBytes {kind : Byte} {p : List Byte} (hkind : kind = 0x01 ∨ kind = 0x02) (hp : p.length ≤ 68) :
    decodeRecord (recordBytes kind p) = .ok (classifyRecord kind p, []) := by
  have hread : takeBytes 70 (recordBytes kind p) = .ok (recordBytes kind p, []) := by
    simpa using takeBytes_of_length (recordBytes kind p) [] (recordBytes_length kind p hp)
  have hlen : ((recordBytes kind p).getD 1 0).toNat = p.length := Nat.mod_eq_of_lt (by omega)
  have hpayload : ((recordBytes kind p).drop 2).take p.length = p := List.take_left
  have hpadding : (recordBytes kind p).drop (2 + p.length) = List.replicate (68 - p.length) 0 := by
    rw [← List.drop_drop]
    exact List.drop_left
  rw [decodeRecord, andThen_of_ok hread, if_neg (by simp [isOtherKindRecord_recordBytes hkind hp])]
  simp only [hlen, hpayload, hpadding]
  rw [if_pos (by simp)]
  rfl

/-- A Text record whose payload is no status text is the general one (30_encoding.md R86). -/
theorem classifyRecord_text {p : List Byte} (h : isStatusText p = false) : classifyRecord 0x02 p = .recText p := by
  simp only [isStatusText, Bool.or_eq_false_iff, beq_eq_false_iff_ne] at h
  obtain ⟨⟨hinit, hstart⟩, hactive⟩ := h
  simp [classifyRecord, hinit, hstart, hactive]

/-- An other-kind record has 70 bytes and is given back as it is (30_encoding.md R88). -/
theorem decodeRecord_otherKind {r : Record} (h : isOtherKindRecord r = true) :
    decodeRecord r = .ok (.recOtherKind r, []) := by
  have hlen : r.length = 70 := by
    simp only [isOtherKindRecord, Bool.and_eq_true, beq_iff_eq] at h
    exact h.1
  have hread : takeBytes 70 r = .ok (r, []) := by simpa using takeBytes_of_length r [] hlen
  rw [decodeRecord, andThen_of_ok hread, if_pos h]
  rfl

/-! ### Every row -/

/-- The bytes of an encoded well-formed instruction are read back, none left. -/
theorem decode_encode {i : Instr} (h : i.wf = true) : decode (encode i).fmt (encode i).bytes = .ok (i, []) := by
  cases i with
  | evStart | evStop | evTick | evPayload => simp [encode, decodeEvent]
  | seqStep | tickInit | tickSession | tickIllegal | thresholdCheck | rxDrain | txStep | watchdogCheck | enterInit
  | enterStartSession | enterActive | enqueue | emitFrame => simp [encode, decodeUop]
  | emitStatus st => cases st <;> rfl
  | ctrl01 | ctrl67 | ctrl00 | ctrl73 | ctrlFF | ctrl72 => simp [encode, decodeControl]
  | ctrlOther p => exact decode_payload_seqBytes (by simpa [Instr.wf] using h)
  | respFrame => exact decodeResponse_append (of_decide_eq_true h)
  | recData p => exact decodeRecord_recordBytes (.inl rfl) (of_decide_eq_true h)
  | recText p =>
    simp only [Instr.wf, Bool.and_eq_true, decide_eq_true_eq, Bool.not_eq_true'] at h
    obtain ⟨hlen, htext⟩ := h
    have hread : decode .record70 (recordBytes 0x02 p) = .ok (classifyRecord 0x02 p, []) :=
      decodeRecord_recordBytes (.inr rfl) hlen
    rwa [classifyRecord_text htext] at hread
  | recOtherKind r => exact decodeRecord_otherKind h
  | statusInit => exact decodeRecord_recordBytes (p := Status.text .init) (.inr rfl) (by decide)
  | statusStartSession => exact decodeRecord_recordBytes (p := Status.text .startSession) (.inr rfl) (by decide)
  | statusActive => exact decodeRecord_recordBytes (p := Status.text .active) (.inr rfl) (by decide)
  | feFrameReady | feChecksumError => simp [encode, decodeFrameEvent]
  | seDone => simp [encode, decodeSequencerEvent]
  | _ => rfl

/-- Settles O4: nothing is left of the item's bytes, so no padding is to be checked. -/
theorem decodeInvertsEncode : Obligations.DecodeInvertsEncode :=
  fun _ h => decodeItem_of_decode (decode_encode h)

/-- Settles O3: each of the words is what `encode` writes for its instruction. -/
theorem sampleWordsDecode : Obligations.SampleWordsDecode := by
  have read {it : Item} {i : Instr} (henc : encode i = it) (hwf : i.wf = true) : decodeItem it = .ok i :=
    henc ▸ decodeInvertsEncode i hwf
  exact ⟨read rfl rfl, read rfl rfl, read rfl rfl, read rfl rfl, read rfl rfl, read rfl rfl, read rfl rfl, read rfl rfl,
    read rfl rfl, read rfl rfl, read rfl rfl, read rfl rfl, read rfl rfl, read rfl rfl, read rfl rfl, read rfl rfl,
    read rfl rfl⟩

/-! ### What the decoder answers -/

/-- Whatever the reader answers is well formed. -/
abbrev YieldsWf (p : Parser Instr) : Prop := Yields (fun i => i.wf = true) p

/-- Every event code but the unassigned ones gives a row whose operands are all well formed. -/
theorem decodeEvent_wf (code : Byte) : YieldsWf (decodeEvent code) := by
  unfold decodeEvent
  split
  case h_17 => exact yields_reject _
  all_goals
    repeat refine yields_andThen fun _ => ?_
    exact yields_give rfl

/-- So does every micro-operation's code. -/
theorem decodeUop_wf (code : Byte) : YieldsWf (decodeUop code) := by
  unfold decodeUop
  split
  case h_19 => exact yields_reject _
  all_goals
    repeat refine yields_andThen fun _ => ?_
    exact yields_give rfl

/-- The two operand layouts of the control bytes (30_encoding.md R89): a time and two draws, or two draws. -/
theorem yieldsWf_takeTime {i : Time → Bool → Bool → Instr} (h : ∀ now l d, (i now l d).wf = true) :
    YieldsWf (andThen takeTime fun now => andThen takeDraw fun l => andThen takeDraw fun d => give (i now l d)) :=
  yields_andThen fun now => yields_andThen fun l => yields_andThen fun d => yields_give (h now l d)

theorem yieldsWf_takeDraw {i : Bool → Bool → Instr} (h : ∀ d l, (i d l).wf = true) :
    YieldsWf (andThen takeDraw fun d => andThen takeDraw fun l => give (i d l)) :=
  yields_andThen fun d => yields_andThen fun l => yields_give (h d l)

theorem yieldsWf_ite {c : Prop} [Decidable c] {p q : Parser Instr} (hp : c → YieldsWf p) (hq : ¬c → YieldsWf q) :
    YieldsWf (if c then p else q) := by
  split
  · exact hp ‹_›
  · exact hq ‹_›

theorem decodeControl_wf (code : Byte) : YieldsWf (decodeControl code) :=
  yieldsWf_ite (fun _ => yieldsWf_takeTime fun _ _ _ => rfl) fun _ =>
  yieldsWf_ite (fun _ => yieldsWf_takeTime fun _ _ _ => rfl) fun _ =>
  yieldsWf_ite (fun _ => yieldsWf_takeDraw fun _ _ => rfl) fun _ =>
  yieldsWf_ite (fun _ => yieldsWf_takeDraw fun _ _ => rfl) fun _ =>
  yieldsWf_ite (fun _ => yieldsWf_takeDraw fun _ _ => rfl) fun _ =>
  yieldsWf_ite (fun _ => yieldsWf_takeDraw fun _ _ => rfl) fun _ => yields_reject _

theorem decodeCommand_wf : YieldsWf decodeCommand := by
  intro bs i rest h
  simp only [decodeCommand] at h
  split at h
  · cases h; rfl
  · split at h <;> cases h
    rfl

/-- The length byte bounds the payload it announces (30_encoding.md R83). -/
theorem decodeResponse_wf : YieldsWf decodeResponse :=
  yields_andThen fun _ => yields_andThen fun _ => yields_andThen fun _ => yields_andThen fun n =>
    yields_andThen_of fun _ p _ hp => yields_andThen fun _ => yields_give (by
      obtain ⟨hlen, -⟩ := takeBytes_ok hp
      have hn : n.toNat < 2 ^ 8 := n.isLt
      exact decide_eq_true (by omega))

/-- A classified record is well formed: a status text has its own row (30_encoding.md R86). -/
theorem classifyRecord_wf (kind : Byte) {p : List Byte} (hp : p.length ≤ 68) : (classifyRecord kind p).wf = true := by
  unfold classifyRecord
  split
  · exact decide_eq_true hp
  split
  · rfl
  split
  · rfl
  split
  · rfl
  · simp_all [Instr.wf, isStatusText]

/-- The length byte of a record that is no other-kind record is at most 68 (30_encoding.md R88). -/
theorem length_le_of_not_otherKind {r : Record} (hlen : r.length = 70) (h : isOtherKindRecord r = false) :
    (r.getD 1 0).toNat ≤ 68 := by
  simp only [isOtherKindRecord, hlen, beq_self_eq_true, Bool.true_and, Bool.or_eq_false_iff, decide_eq_false_iff_not] at h
  omega

theorem decodeRecord_wf : YieldsWf decodeRecord :=
  yields_andThen_of fun _ r _ hr => yieldsWf_ite (fun hother => yields_give hother) fun hknown =>
    yieldsWf_ite (fun _ => yields_give (classifyRecord_wf _ (by
      obtain ⟨hlen, -⟩ := takeBytes_ok hr
      exact (List.length_take_le _ _).trans (length_le_of_not_otherKind hlen (by simpa using hknown)))))
      fun _ => yields_reject _

theorem decodePstate_wf (code : Byte) : YieldsWf (decodePstate code) := by
  unfold decodePstate
  split
  case h_5 => exact yields_reject _
  all_goals exact yields_give rfl

theorem decodeLineMode_wf (code : Byte) : YieldsWf (decodeLineMode code) := by
  unfold decodeLineMode
  split
  case h_5 => exact yields_reject _
  all_goals exact yields_give rfl

theorem decodeResult_wf (code : Byte) : YieldsWf (decodeResult code) := by
  unfold decodeResult
  split
  case h_4 => exact yields_reject _
  all_goals exact yields_give rfl

theorem decodeFrameEvent_wf (code : Byte) : YieldsWf (decodeFrameEvent code) := by
  unfold decodeFrameEvent
  split
  · exact yields_give rfl
  · exact yields_andThen fun _ => yields_andThen fun _ => yields_give rfl
  · exact yields_andThen fun _ => yields_andThen fun _ => yields_andThen fun _ => yields_give rfl
  · exact yields_reject _

theorem decodeSequencerEvent_wf (code : Byte) : YieldsWf (decodeSequencerEvent code) := by
  unfold decodeSequencerEvent
  split
  · exact yields_give rfl
  · exact yields_andThen fun _ => yields_give rfl
  · exact yields_reject _

/-- The reader of each format answers well-formed instructions only. -/
theorem decode_wf (f : Format) : YieldsWf (decode f) := by
  cases f with
  | event4 => exact yields_andThen decodeEvent_wf
  | uop5 => exact yields_andThen decodeUop_wf
  | payload1 => exact yields_andThen decodeControl_wf
  | payload =>
    exact yields_andThen fun p => yieldsWf_ite (fun _ => yields_reject _) fun h => yields_give (by simpa [Instr.wf] using h)
  | klineCmd => exact decodeCommand_wf
  | klineResp => exact decodeResponse_wf
  | record70 => exact decodeRecord_wf
  | pstate2 => exact yields_andThen decodePstate_wf
  | lineMode2 => exact yields_andThen decodeLineMode_wf
  | result => exact yields_andThen decodeResult_wf
  | frameEvent => exact yields_andThen decodeFrameEvent_wf
  | sequencerEvent => exact yields_andThen decodeSequencerEvent_wf

/-- An item's instruction is what its format's reader answered. -/
theorem decode_of_decodeItem {it : Item} {i : Instr} (h : decodeItem it = .ok i) :
    ∃ rest, decode it.fmt it.bytes = .ok (i, rest) := by
  simp only [decodeItem] at h
  split at h
  · cases h
  · split at h <;> cases h
    exact ⟨_, ‹_›⟩

/-- Settles O5: `decode_wf` for the item's format. -/
theorem decodedInstructionsAreWellFormed : Obligations.DecodedInstructionsAreWellFormed := by
  intro it i h
  obtain ⟨rest, hread⟩ := decode_of_decodeItem h
  exact decode_wf it.fmt it.bytes i rest hread

end Sys2Proof.Proofs
end

section
/-! PROOFS. 00_scope.md, 70_reset_and_hazards.md: what the boot order refuses, and INIT. -/

namespace Sys2Proof.Proofs
open Sys2Proof.Machine Sys2Proof.Safety

/-! ### The boot order -/

/-- A step whose instruction the boot order refuses. -/
theorem step_of_bootRefusal {s : State} {it : Item} {rest : List Item} {i : Instr} {r : Refusal}
    (hstimulus : s.stimulus = it :: rest) (hdecode : decodeItem it = .ok i) (hrefused : bootRefusal i s = some r) :
    step s = .refused r := by
  simp [step, fetch, hstimulus, hdecode, hrefused]

/-- 00_scope.md R10. -/
theorem bootRefusal_of_illegal (i : Instr) {s : State} (h : ¬LegalConfig s.cfg) :
    bootRefusal i s = some .illegalConfiguration := by
  rw [← configLegal_iff_legalConfig] at h
  rw [bootRefusal, if_neg h]

/-- 70_reset_and_hazards.md R324. -/
theorem bootRefusal_of_beforeInit {i : Instr} {s : State} (hlegal : LegalConfig s.cfg) (hinit : s.initDone = false)
    (hi : i ≠ .evInit) : bootRefusal i s = some .beforeInit := by
  rw [bootRefusal, if_pos (configLegal_iff_legalConfig.2 hlegal), if_neg (by simp [hinit, hi])]

/-- Settles O2: the two refusals of the boot order. -/
theorem bootOrderIsEnforced : Obligations.BootOrderIsEnforced :=
  fun _ _ _ i hstimulus hdecode =>
    ⟨fun hillegal => step_of_bootRefusal hstimulus hdecode (bootRefusal_of_illegal i hillegal),
     fun hlegal hinit hi => step_of_bootRefusal hstimulus hdecode (bootRefusal_of_beforeInit hlegal hinit hi)⟩

/-! ### INIT and the reset state -/

/-- INIT, with the changes of the line as Safety writes them (70_reset_and_hazards.md R320). -/
theorem powerOn_eq (s : State) : powerOn s =
    { s with
      running := false, tickCount := 0, pstate := .init, sequencer := .idle none,
      inCount := 0, sentCount := 0, expectedLength := 0, frameLen := 0, runningChecksum := 0,
      frameBuf := [], lastFrameEnd := 0, watchdogDeadline := 0, errorCounter := 0, queue := [], rxFifo := [],
      lineMode := .off, lineLevel := .high, restartReq := false, initDone := true, resultOut := .ok,
      trace := s.trace ++ modeChange .off s ++ levelChange .high s } := rfl

theorem exec_evInit (s : State) : exec .evInit s = .next (powerOn s) := rfl

/-- Settles O15: `powerOn` in any state. -/
theorem initSetsThePowerOnState : Obligations.InitSetsThePowerOnState := by
  intro s
  rw [exec_evInit, powerOn_eq]

/-- A state with empty memories and counters at 0, its line in a written mode, is sound under any configuration. -/
theorem sound_of_empty {s : State} (hbuf : s.frameBuf = []) (hlen : s.frameLen = 0) (hin : s.inCount = 0)
    (hsent : s.sentCount = 0) (hqueue : s.queue = []) (hfifo : s.rxFifo = []) (hmode : s.lineMode ≠ .unused3) :
    Sound s where
  bufferSorted := by rw [hbuf]; rfl
  bufferInside := by simp [hbuf]
  bufferWritten := by simp [hlen]
  frameFits := by simp [hlen]
  frameCounted := by simp [hlen]
  sentBound := by simp [hsent]
  countBound := by simp [hin]
  queueBound := by simp [hqueue]
  queueRecords := by simp [hqueue]
  fifoBound := by simp [hfifo]
  modeWritten := hmode

/-- A stopped block in Init with the line off, whose counters and times are all 0, is in session. -/
theorem inSession_of_powerOn {s : State} (hrunning : s.running = false) (hp : s.pstate = .init) (hin : s.inCount = 0)
    (hsent : s.sentCount = 0) (hfifo : s.rxFifo = []) (herrors : s.errorCounter = 0) (hend : s.lastFrameEnd = 0)
    (hdeadline : s.watchdogDeadline = 0) (hlatch : s.sequencer = .idle none)
    (horigin : s.tickOrigin.toNat ≤ s.lastSample.toNat) : InSession s where
  legalState := by simp [hp]
  initSent := fun _ => hsent
  initCount := fun _ => hin
  offEmpty := fun _ => hfifo
  initPulse := by simp [hrunning]
  sessionUart := by simp [hrunning]
  errorsInActive := fun _ => herrors
  frameEndPast := by simp [hend]
  deadlineNear := by simp [hdeadline]
  latchPast := by simp [hlatch]
  originPast := horigin

/-- Settles O7: the reset state is empty, stopped, and at time 0. -/
theorem resetIsSoundAndInSession : Obligations.ResetIsSoundAndInSession :=
  ⟨sound_of_empty rfl rfl rfl rfl rfl rfl LineMode.noConfusion,
   inSession_of_powerOn rfl rfl rfl rfl rfl rfl rfl rfl rfl le_rfl⟩

end Sys2Proof.Proofs
end

section
/-! PROOFS. 43_tick_scheduler.md: the outcomes of START, and the start bytes of the dispatcher. -/

namespace Sys2Proof.Proofs
open Sys2Proof.Machine Sys2Proof.Safety

/-! ### START in the states Safety writes -/

section
variable {now : Time} {s : State} (l d : Bool)

/-- 43_tick_scheduler.md R224. -/
theorem startBlock_of_running (hrunning : s.running = true) (hsample : s.lastSample.toNat ≤ now.toNat) :
    startBlock now l d s = .ok (sampled now s, .ok) := by
  rw [startBlock_sampled l d hsample, if_pos hrunning]
  rfl

/-- 43_tick_scheduler.md R225, the link. -/
theorem startBlock_of_linkFails (hstopped : s.running = false) (hsample : s.lastSample.toNat ≤ now.toNat) :
    startBlock now false d s = .ok (recorded .x5 (sampled now s), .errLink) := by
  rw [startBlock_sampled false d hsample, hstopped]
  rfl

/-- 43_tick_scheduler.md R222, R223. -/
theorem startBlock_of_started (hstopped : s.running = false) (hsample : s.lastSample.toNat ≤ now.toNat)
    (hfits : now.toNat + s.cfg.t3Us < 2 ^ 64) : startBlock now true true s = .ok (started now s, .ok) := by
  simp only [startBlock_sampled true true hsample, hstopped, sessionReset_sampled, if_pos hfits]
  rfl

/-- 43_tick_scheduler.md R225, the timer: the line brought up for the session is released again. -/
theorem startBlock_of_timerFails (hstopped : s.running = false) (hsample : s.lastSample.toNat ≤ now.toNat)
    (hfits : now.toNat + s.cfg.t3Us < 2 ^ 64) :
    startBlock now true false s = .ok (startTimerFailed now s, .errTimer) := by
  have hreleased : raise .x6 (flushRx (setLineMode .off (resetSession now s))) = startTimerFailed now s := by
    simp only [startTimerFailed, raise, emit, flushRx, setLineMode, List.append_assoc]
    rfl
  simp only [startBlock_sampled true false hsample, hstopped, sessionReset_sampled, if_pos hfits, hreleased]
  rfl

/-- 10_state.md R45 (log 16). -/
theorem startBlock_of_outOfRange (hstopped : s.running = false) (hsample : s.lastSample.toNat ≤ now.toNat)
    (hlate : 2 ^ 64 ≤ now.toNat + s.cfg.t3Us) : startBlock now true d s = .error .timeOutOfRange := by
  simp only [startBlock_sampled true d hsample, hstopped, if_neg (not_lt.2 hlate)]
  rfl

end

/-! ### EV_START -/

theorem exec_evStart_of_ok {now : Time} {l d : Bool} {s t : State} {c : ResultCode}
    (h : startBlock now l d s = .ok (t, c)) : exec (.evStart now l d) s = .next (returned c t) := by
  have harm : exec (.evStart now l d) s = execEvStart now l d s := rfl
  rw [harm, execEvStart, h]
  rfl

theorem exec_evStart_of_error {now : Time} {l d : Bool} {s : State} {r : Refusal}
    (h : startBlock now l d s = .error r) : exec (.evStart now l d) s = .refused r := by
  have harm : exec (.evStart now l d) s = execEvStart now l d s := rfl
  rw [harm, execEvStart, h]

/-- Settles O16: the started session, whose first tick is due one period after its origin and finds Init. -/
theorem startResetsTheSession : Obligations.StartResetsTheSession := by
  intro s now hstopped hsample hfits
  refine ⟨exec_evStart_of_ok (startBlock_of_started hstopped hsample hfits), rfl, fun first hdue hfirst => ?_⟩
  have hdue' : now.toNat + (0 + 1) * s.cfg.tickPeriodUs ≤ first.toNat := by rwa [zero_add, one_mul]
  have hlater : now.toNat ≤ first.toNat := by omega
  exact tickRunsTheArmOfItsState (returned .ok (started now s)) first rfl hdue' hlater hfirst

/-- Settles O17: START while running. -/
theorem startWhileRunningIsANoOp : Obligations.StartWhileRunningIsANoOp :=
  fun _ _ l d hrunning hsample => exec_evStart_of_ok (startBlock_of_running l d hrunning hsample)

/-- Settles O18: the two failures of START. -/
theorem startFailuresReturnTheirCodes : Obligations.StartFailuresReturnTheirCodes :=
  fun _ _ d hstopped hsample =>
    ⟨exec_evStart_of_ok (startBlock_of_linkFails d hstopped hsample),
     fun hfits => exec_evStart_of_ok (startBlock_of_timerFails hstopped hsample hfits)⟩

/-- Settles O19: the two refusals of START. -/
theorem startRefusesImpossibleSamples : Obligations.StartRefusesImpossibleSamples :=
  fun _ _ l d =>
    ⟨fun hbelow => exec_evStart_of_error (startBlock_below l d hbelow),
     fun hstopped hsample hlate => exec_evStart_of_error (startBlock_of_outOfRange d hstopped hsample hlate)⟩

/-! ### A second START or STOP -/

/-- A START that answers OK leaves the block running, its `now` sampled. -/
theorem running_of_startBlock_ok {now : Time} {l d : Bool} {s t : State} (h : startBlock now l d s = .ok (t, .ok)) :
    t.running = true ∧ t.lastSample = now := by
  obtain ⟨-, ⟨hrunning, -, rfl⟩ | ⟨-, -, hcode, -⟩ | ⟨-, -, -, ⟨-, -, rfl⟩ | ⟨-, hcode, -⟩⟩⟩ := startBlock_cases h
  · exact ⟨hrunning, rfl⟩
  · cases hcode
  · exact ⟨rfl, rfl⟩
  · cases hcode

/-- A STOP that does not answer ERR_TIMER leaves the block stopped. -/
theorem stopped_of_stopBlock (d l : Bool) {s : State} (h : (stopBlock d l s).2 ≠ .errTimer) :
    (stopBlock d l s).1.running = false := by
  obtain ⟨hstopped, he⟩ | ⟨-, -, he⟩ | ⟨-, -, -, he⟩ | ⟨-, -, -, he⟩ := stopBlock_cases d l s <;> rw [he] at h ⊢
  · exact hstopped
  · exact absurd rfl h
  · rfl
  · rfl

/-- Settles O21: after the first call the block runs or is stopped, and a second call of the same kind has nothing to do. -/
theorem repeatedStartAndStopAreIdempotent : Obligations.RepeatedStartAndStopAreIdempotent := by
  refine ⟨fun s t now now' l d l' d' h hok => ?_, fun s t d l d' l' h hcode => ?_⟩
  · obtain ⟨u, c, hstart, rfl⟩ := execEvStart_cases h
    obtain rfl : c = .ok := hok
    obtain ⟨hrunning, hlast⟩ := running_of_startBlock_ok hstart
    refine ⟨hrunning, hlast, fun hlater => startWhileRunningIsANoOp _ now' l' d' hrunning ?_⟩
    have hsample : u.lastSample.toNat ≤ now'.toNat := by rwa [hlast]
    exact hsample
  · rw [exec_evStop] at h
    cases h
    have hstopped : (stopBlock d l s).1.running = false := by
      refine stopped_of_stopBlock d l fun htimer => ?_
      simp [returned, htimer] at hcode
    obtain ⟨-, hagain⟩ := stopHaltsThenReleases (returned (stopBlock d l s).2 (stopBlock d l s).1) d' l'
    exact ⟨hstopped, hagain hstopped⟩

/-! ### The start bytes -/

/-- 45_command_dispatch.md R271: the rows and payloads that call START. -/
def IsStartByte (now : Time) (l d : Bool) (i : Instr) : Prop :=
  i = .ctrl01 now l d ∨ i = .ctrl67 now l d ∨ (∃ a b, i = .evPayload [0x01] now l d a b) ∨
    (∃ a b, i = .evPayload [0x67] now l d a b)

theorem exec_of_isStartByte {now : Time} {l d : Bool} {i : Instr} (h : IsStartByte now l d i) (s : State) :
    exec i s = dispatchStart now l d s := by
  obtain rfl | rfl | ⟨a, b, rfl⟩ | ⟨a, b, rfl⟩ := h
  · rfl
  · rfl
  · simp only [exec_evPayload, execEvPayload, payloadAction_start.2 (.inl rfl)]
  · simp only [exec_evPayload, execEvPayload, payloadAction_start.2 (.inr rfl)]

theorem dispatchStart_of_ok {now : Time} {l d : Bool} {s t : State} {c : ResultCode}
    (h : startBlock now l d s = .ok (t, c)) : dispatchStart now l d s = .next t := by
  rw [dispatchStart, h]

theorem dispatchStart_of_error {now : Time} {l d : Bool} {s : State} {r : Refusal}
    (h : startBlock now l d s = .error r) : dispatchStart now l d s = .refused r := by
  rw [dispatchStart, h]

/-- Settles O55: the start bytes take every outcome of `startBlock` without its code. -/
theorem startBytesStart : Obligations.StartBytesStart := by
  intro s now i l d hi
  have hi : IsStartByte now l d i := hi
  rw [exec_of_isStartByte hi]
  refine ⟨fun hbelow => ?_, fun hrunning hsample => ?_, fun hstopped hlink hsample => ?_,
    fun hstopped hlink hsample hfits => ?_⟩
  · exact dispatchStart_of_error (startBlock_below l d hbelow)
  · exact dispatchStart_of_ok (startBlock_of_running l d hrunning hsample)
  · subst hlink
    exact dispatchStart_of_ok (startBlock_of_linkFails d hstopped hsample)
  · subst hlink
    cases d
    · exact dispatchStart_of_ok (startBlock_of_timerFails hstopped hsample hfits)
    · exact dispatchStart_of_ok (startBlock_of_started hstopped hsample hfits)

/-! ### When a tick is refused -/

theorem exec_evTick (now : Time) (s : State) : exec (.evTick now) s = execEvTick now s := rfl

/-- Settles O22: the enabling rules of a tick, in the order they are checked (43_tick_scheduler.md R220, R221). -/
theorem tickWaitsForItsTime : Obligations.TickWaitsForItsTime := by
  intro s now
  rw [exec_evTick]
  refine ⟨fun hstopped => ?_, fun hrunning hearly => ?_, fun hrunning hdue hbelow => ?_⟩
  · rw [execEvTick, if_neg (by simp [hstopped])]
  · rw [execEvTick, if_pos hrunning, if_pos (show now.toNat < nominalTime s from hearly)]
  · have hdue : ¬now.toNat < nominalTime s := not_lt.2 hdue
    have hrefused : sampleRefusal now s = some .timeNotMonotonic := by simp [sampleRefusal, belowEarlierSample, hbelow]
    rw [execEvTick, if_pos hrunning, if_neg hdue, hrefused]

end Sys2Proof.Proofs
end

section
/-! PROOFS. 44_outbound_bridge.md: offered records and the rows that offer them. -/

namespace Sys2Proof.Proofs
open Sys2Proof.Machine Sys2Proof.Safety

/-! ### Offers in the states Safety writes -/

/-- 44_outbound_bridge.md R252. -/
theorem offer_eq (rec : Record) (s : State) : offer rec s = afterEnqueue rec s := by
  rw [afterEnqueue]
  obtain ⟨hfull, h⟩ | ⟨hroom, h⟩ := offer_cases rec s <;> rw [h]
  · rw [if_pos hfull]
    rfl
  · rw [if_neg hroom]

theorem sendStatus_init (s : State) : sendStatus .init s = afterEnqueue (textRecord s.cfg initText) s := offer_eq _ s

theorem sendStatus_startSession (s : State) :
    sendStatus .startSession s = afterEnqueue (textRecord s.cfg startSessionText) s := offer_eq _ s

theorem sendStatus_active (s : State) : sendStatus .active s = afterEnqueue (textRecord s.cfg activeText) s :=
  offer_eq _ s

theorem sendFrame_eq_afterEnqueue (f : List Byte) (s : State) :
    sendFrame f s = afterEnqueue (recordOf s.cfg 0x01 (f.take s.cfg.msgPayloadMax)) s := offer_eq _ s

/-- Settles O53: each row is `sendStatus` or `sendFrame`. -/
theorem emittedRecordsAreTheirRules : Obligations.EmittedRecordsAreTheirRules := by
  intro s f
  rw [← sendStatus_init, ← sendStatus_startSession, ← sendStatus_active, ← sendFrame_eq_afterEnqueue]
  exact ⟨rfl, rfl, rfl, rfl, rfl, rfl, rfl⟩

/-! ### Records the block may or may not build -/

theorem offerChecked_of_wf {rec : Record} {s : State} (h : recordWf s.cfg rec = true) :
    offerChecked rec s = .next (afterEnqueue rec s) := by
  rw [offerChecked, if_pos h, offer_eq]

theorem offerChecked_of_malformed {rec : Record} {s : State} (h : recordWf s.cfg rec = false) :
    offerChecked rec s = .refused .malformedRecord := by
  rw [offerChecked, if_neg (by simp [h])]

/-- 30_encoding.md R88: a record of another kind, or with a length above the maximum, is malformed. -/
theorem recordWf_of_otherKind {c : Config} {rec : Record}
    (h : (rec.getD 0 0 ≠ 0x01 ∧ rec.getD 0 0 ≠ 0x02) ∨ c.msgPayloadMax < (rec.getD 1 0).toNat) :
    recordWf c rec = false := by
  obtain ⟨hdata, htext⟩ | hlong := h
  · have hkind : (rec.getD 0 0 == 0x01 || rec.getD 0 0 == 0x02) = false :=
      Bool.or_eq_false_iff.2 ⟨beq_false_of_ne hdata, beq_false_of_ne htext⟩
    simp only [recordWf, hkind, Bool.and_false, Bool.false_and]
  · have hlength : decide ((rec.getD 1 0).toNat ≤ c.msgPayloadMax) = false := decide_eq_false (not_le.2 hlong)
    simp only [recordWf, hlength, Bool.and_false, Bool.false_and]

/-- 20_memory.md R62: a payload that does not fit makes the record longer than `MSG_RECORD_BYTES`. -/
theorem recordWf_of_longPayload {c : Config} {kind : Byte} {p : List Byte} (hr : c.msgPayloadMax + 2 = c.msgRecordBytes)
    (hp : c.msgPayloadMax < p.length) : recordWf c (mkRecord c kind p) = false := by
  have hsize : ((mkRecord c kind p).length == c.msgRecordBytes) = false := by
    simp only [mkRecord, List.length_cons, List.length_append, List.length_replicate, beq_eq_false_iff_ne]
    omega
  simp only [recordWf, hsize, Bool.false_and]

/-- Settles O52: ENQUEUE by whether the record is well formed. -/
theorem enqueueOffersWellFormedRecords : Obligations.EnqueueOffersWellFormedRecords := by
  refine fun s rec => ⟨fun kind payload hkind hp hm hr hrec => ?_, fun hother => ?_⟩
  · subst hrec
    exact offerChecked_of_wf (recordWf_mkRecord hkind hp hm hr)
  · exact offerChecked_of_malformed (recordWf_of_otherKind hother)

/-- Settles O54: the record rows by whether their payload fits. -/
theorem recordRowsOfferTheirRecord : Obligations.RecordRowsOfferTheirRecord :=
  fun _ _ hr hm =>
    ⟨fun hp => ⟨offerChecked_of_wf (recordWf_mkRecord (.inl rfl) hp hm hr),
        offerChecked_of_wf (recordWf_mkRecord (.inr rfl) hp hm hr)⟩,
     fun hp => ⟨offerChecked_of_malformed (recordWf_of_longPayload hr hp),
        offerChecked_of_malformed (recordWf_of_longPayload hr hp)⟩⟩

end Sys2Proof.Proofs
end

section
/-! PROOFS. 20_memory.md, 30_encoding.md: bytes on the line, and the rows that encode values. -/

namespace Sys2Proof.Proofs
open Sys2Proof.Machine Sys2Proof.Safety

/-! ### A delivered frame -/

/-- 20_memory.md R64: whatever is delivered on a line that is off is lost. -/
theorem rxArriveAll_of_off (bs : List Byte) {s : State} (hoff : s.lineMode = .off) : rxArriveAll bs s = s := by
  induction bs with
  | nil => rfl
  | cons b bs ih =>
    obtain ⟨-, h⟩ | ⟨hon, -⟩ | ⟨hon, -⟩ := rxArrive_cases b s
    · rw [rxArriveAll, h, ih]
    · exact absurd hoff hon
    · exact absurd hoff hon

/-- 20_memory.md R64: of the bytes delivered on a line that is on, the first fill the FIFO and each other is lost with X7. -/
theorem rxArriveAll_of_on (bs : List Byte) {s : State} (hon : s.lineMode ≠ .off)
    (hfits : s.rxFifo.length ≤ s.cfg.rxFifoCap) :
    rxArriveAll bs s =
      { s with
        rxFifo := s.rxFifo ++ bs.take (s.cfg.rxFifoCap - s.rxFifo.length),
        trace := s.trace ++ (bs.drop (s.cfg.rxFifoCap - s.rxFifo.length)).map fun b => .raised (.x7 b) } := by
  induction bs generalizing s with
  | nil => simp [rxArriveAll]
  | cons b bs ih =>
    obtain ⟨hoff, -⟩ | ⟨-, hfull, h⟩ | ⟨-, hroom, h⟩ := rxArrive_cases b s
    · exact absurd hoff hon
    · have hrest := ih (s := emit [.raised (.x7 b)] s) hon hfits
      have hnone : s.cfg.rxFifoCap - s.rxFifo.length = 0 := by omega
      rw [rxArriveAll, h, hrest]
      simp [hnone, emit]
    · have hlen : (s.rxFifo ++ [b]).length = s.rxFifo.length + 1 := by simp
      have hrest := ih (s := { s with rxFifo := s.rxFifo ++ [b] }) hon (by rw [hlen]; simp only; omega)
      obtain ⟨k, hk⟩ : ∃ k, s.cfg.rxFifoCap - s.rxFifo.length = k + 1 :=
        Nat.exists_eq_succ_of_ne_zero (by omega)
      have hless : s.cfg.rxFifoCap - (s.rxFifo.length + 1) = k := by omega
      rw [rxArriveAll, h, hrest]
      simp [hk, hless]

/-- Settles O49: the frame's bytes are `responseBytes`, delivered one after the other. -/
theorem responseFrameArrives : Obligations.ResponseFrameArrives := by
  intro s h0 h1 h2 c p bs hbs
  obtain rfl : bs = responseBytes h0 h1 h2 p c := hbs
  have harm : exec (.respFrame h0 h1 h2 p c) s = .next (rxArriveAll (responseBytes h0 h1 h2 p c) s) := rfl
  rw [harm]
  exact ⟨fun hoff => by rw [rxArriveAll_of_off _ hoff], fun hon hfits => by rw [rxArriveAll_of_on _ hon hfits]⟩

/-! ### One update each -/

/-- Settles O50: each of the four rows is one append or one flush (20_memory.md R65, R66). -/
theorem lineWritesAndFlush : Obligations.LineWritesAndFlush := fun _ _ => ⟨rfl, rfl, rfl, rfl⟩

/-- Settles O58: each of the ten rows is one update. -/
theorem valueRowsWriteOrReturnTheirValue : Obligations.ValueRowsWriteOrReturnTheirValue :=
  fun _ => ⟨rfl, rfl, rfl, rfl, rfl, rfl, rfl, rfl, rfl, rfl⟩

end Sys2Proof.Proofs
end

section
/-! PROOFS. 40_frame_codec.md: a byte that does not fit, and that FEED completes. -/

namespace Sys2Proof.Proofs
open Sys2Proof.Machine Sys2Proof.Safety

/-- 40_frame_codec.md R133: a genuine byte that is not final and finds no room. -/
theorem feedByte_of_noRoom {s : State} (b : Byte) (hcount : s.inCount.toNat + 1 < 2 ^ 16)
    (hgenuine : s.sentCount.toNat < s.inCount.toNat + 1)
    (hnotFinal : s.inCount.toNat + 1 - s.sentCount.toNat ≠ (genuineStart s).expectedLength.toNat + 5)
    (hfull : s.cfg.frameCap ≤ (genuineStart s).frameLen.toNat) :
    feedByte b s = .ok (recorded (.x8 b) (summed s b), .more) := by
  rw [← genuineStart_cfg s] at hfull
  rw [feedByte_of_genuine b hcount hgenuine, if_neg hnotFinal]
  simp only [storeByte, if_neg (not_lt.2 hfull)]
  rfl

/-- Settles O40: past the first byte the frame is not begun anew. -/
theorem feedSumsAByteThatDoesNotFit : Obligations.FeedSumsAByteThatDoesNotFit := by
  intro s b g hcount hgenuine hg hnotFirst hnotFinal hfull
  subst hg
  have hstart := genuineStart_of_not_first hnotFirst
  have hfeed := feedByte_of_noRoom b hcount hgenuine (by rwa [hstart]) (by rwa [hstart])
  rw [exec_feed_of_feedByte hfeed, summed, hstart]

/-- Settles O42: a sound state's FEED completes and writes only what `feedByte_frame` names. -/
theorem feedCompletesOnSoundStates : Obligations.FeedCompletesOnSoundStates := by
  intro s b hsound
  obtain ⟨t, ev, hfeed⟩ := (codecSound_of_sound hsound).feed_completes b
  refine ⟨t, exec_feed_of_feedByte hfeed, ?_⟩
  rw [feedByte_frame hfeed]
  exact ⟨rfl, rfl, rfl, rfl, rfl, rfl, rfl, rfl, rfl⟩

end Sys2Proof.Proofs
end

section
/-! PROOFS. 42_protocol_fsm.md: the state entries, the checks, and what the tick does with each event. -/

namespace Sys2Proof.Proofs
open Sys2Proof.Machine Sys2Proof.Safety

/-! ### The operations in the states Safety writes -/

/-- 42_protocol_fsm.md R187. -/
theorem toInit_eq (now : Time) (s : State) : toInit now s = enteredInit now s := offer_eq _ _

/-- 42_protocol_fsm.md R188. -/
theorem toStartSession_eq (now : Time) (s : State) : toStartSession now s = enteredStartSession now s := offer_eq _ _

/-- 42_protocol_fsm.md R189. -/
theorem toActive_eq (now : Time) (s : State) : toActive now s = enteredActive s := offer_eq _ _

/-- 42_protocol_fsm.md R172. -/
theorem fastInitDone_eq (now : Time) (s : State) : fastInitDone now s = endedFastInit now s := toStartSession_eq _ _

/-- 42_protocol_fsm.md R175: the error counter saturates at 255. -/
theorem saturatingSucc_eq (c : Byte) : saturatingSucc c = BitVec.ofNat 8 (min (c.toNat + 1) 255) := by
  have hc : c.toNat < 2 ^ 8 := c.isLt
  apply BitVec.eq_of_toNat_eq
  simp only [saturatingSucc]
  split
  · rw [min_eq_left (by omega), BitVec.toNat_add, BitVec.toNat_ofNat]
    rfl
  · rw [min_eq_right (by omega)]
    change c.toNat = 255
    omega

/-! ### What the drain does with an event -/

/-- 42_protocol_fsm.md R177. -/
theorem onFrameEvent_frameReady_of_startSession (now : Time) (f : List Byte) {s : State} (hp : s.pstate = .startSession) :
    onFrameEvent now (.frameReady f) s = enteredActive { s with lastFrameEnd := now } := by
  simp only [onFrameEvent, if_pos hp]
  exact toActive_eq now _

/-- 42_protocol_fsm.md R175, R178. -/
theorem onFrameEvent_frameReady_of_not (now : Time) (f : List Byte) {s : State} (hp : s.pstate ≠ .startSession) :
    onFrameEvent now (.frameReady f) s = afterEnqueue (recordOf s.cfg 0x01 (f.take s.cfg.msgPayloadMax))
      { s with lastFrameEnd := now, errorCounter := 0 } := by
  simp only [onFrameEvent, if_neg hp]
  exact sendFrame_eq_afterEnqueue f _

/-- 42_protocol_fsm.md R179. -/
theorem onFrameEvent_checksumError_of_startSession (now : Time) (r c : Byte) {s : State}
    (hp : s.pstate = .startSession) :
    onFrameEvent now (.checksumError r c) s = enteredInit now { recorded (.x1 r c) s with lastFrameEnd := now } := by
  simp only [onFrameEvent, if_pos hp]
  exact toInit_eq now _

/-- 42_protocol_fsm.md R175. -/
theorem onFrameEvent_checksumError_of_not (now : Time) (r c : Byte) {s : State} (hp : s.pstate ≠ .startSession) :
    onFrameEvent now (.checksumError r c) s =
      { recorded (.x1 r c) s with
        lastFrameEnd := now, errorCounter := BitVec.ofNat 8 (min (s.errorCounter.toNat + 1) 255) } := by
  simp only [onFrameEvent, if_neg hp, saturatingSucc_eq]
  rfl

/-! ### The rows -/

/-- Settles O37: the entries as instructions, where the deadline fits. -/
theorem stateEntriesDoAsTheirRulesSay : Obligations.StateEntriesDoAsTheirRulesSay := by
  intro s now
  rw [← toInit_eq, ← toStartSession_eq, ← toActive_eq now]
  exact ⟨fun hfits => ⟨withDeadline_of_fits _ hfits, withDeadline_of_fits _ hfits⟩, rfl⟩

/-- Settles O31: the Init entry after X3. -/
theorem illegalTickRecoversToInit : Obligations.IllegalTickRecoversToInit := by
  intro s now hfits
  have harm : exec (.tickIllegal now) s = .next (toInit now (recorded (.x3 s.pstate) s)) := withDeadline_of_fits _ hfits
  rw [harm, toInit_eq]

/-- Settles O32: the two cases of the check. -/
theorem thresholdDowngrades : Obligations.ThresholdDowngrades := by
  intro s now hfits
  rw [exec_thresholdCheck_of_fits hfits, ← toStartSession_eq]
  obtain ⟨hreached, h⟩ | ⟨hbelow, h⟩ := checkThreshold_cases now s <;> rw [h]
  · exact ⟨fun _ => rfl, fun hbelow => absurd hreached (not_le.2 hbelow)⟩
  · exact ⟨fun hreached => absurd hbelow (not_lt.2 hreached), fun _ => rfl⟩

/-- 42_protocol_fsm.md R184, R185: the watchdog check before its deadline, and past it in each session state. -/
theorem checkWatchdog_of_waiting {now : Time} {s : State} (h : now.toNat ≤ s.watchdogDeadline.toNat) :
    checkWatchdog now s = .ok (s, false) := by
  rw [checkWatchdog, watchdogExpired, decide_eq_false (not_lt.2 h)]
  rfl

theorem checkWatchdog_of_expired {now : Time} {s : State} (h : s.watchdogDeadline.toNat < now.toNat)
    (hp : s.pstate = .startSession) : checkWatchdog now s =
      .ok (enteredInit now { recorded (.x2 now s.watchdogDeadline) s with lastFrameEnd := now }, true) := by
  simp only [checkWatchdog, watchdogExpired, decide_eq_true h, if_true, hp, toInit_eq]
  rfl

theorem checkWatchdog_of_expired_active {now : Time} {s : State} (h : s.watchdogDeadline.toNat < now.toNat)
    (hp : s.pstate = .active) : checkWatchdog now s =
      .ok (enteredStartSession now { recorded (.x2 now s.watchdogDeadline) s with lastFrameEnd := now }, true) := by
  simp only [checkWatchdog, watchdogExpired, decide_eq_true h, if_true, hp, toStartSession_eq]
  rfl

/-- Settles O33: the three cases of the check. -/
theorem watchdogDowngrades : Obligations.WatchdogDowngrades :=
  fun _ _ hfits =>
    ⟨fun hwaiting => exec_watchdogCheck_of_ok hfits (checkWatchdog_of_waiting hwaiting),
     fun hexpired hp => exec_watchdogCheck_of_ok hfits (checkWatchdog_of_expired hexpired hp),
     fun hexpired hp => exec_watchdogCheck_of_ok hfits (checkWatchdog_of_expired_active hexpired hp)⟩

/-! ### The Init tick -/

theorem exec_tickInit_of_fits {now : Time} {s : State} (hfits : now.toNat + s.cfg.t3Us < 2 ^ 64) :
    exec (.tickInit now) s = .next (tickInInit now s) := withDeadline_of_fits _ hfits

/-- 42_protocol_fsm.md R171: an Init tick takes the call of SEQ_STEP, and the end of fast-init after the last one. -/
theorem tickInInit_windows (now : Time) (s : State) :
    tickInInit now s =
      if now.toNat < (sequenceStart now s).toNat + s.cfg.t1Us then sequencing now .high s
      else if now.toNat < (sequenceStart now s).toNat + (s.cfg.t1Us + s.cfg.t2Us) then sequencing now .low s
      else if now.toNat < (sequenceStart now s).toNat + (s.cfg.t1Us + 2 * s.cfg.t2Us) then sequencing now .high s
      else endedFastInit now (sequenceDone now s) := by
  rw [tickInInit, sequencerStep_windows, ← fastInitDone_eq]
  split
  · rfl
  split
  · rfl
  split <;> rfl

/-- Settles O29: the windows in order. -/
theorem initTickStepsTheSequencer : Obligations.InitTickStepsTheSequencer := by
  intro s now hfits
  rw [exec_tickInit_of_fits hfits, tickInInit_windows]
  refine ⟨fun hfirst => ?_, fun hopen hlow => ?_, fun hopen hlast => ?_, fun hover => ?_⟩
  · rw [if_pos hfirst]
  · rw [if_neg (by omega), if_pos hlow]
  · rw [if_neg (by omega), if_neg (by omega), if_pos hlast]
  · rw [if_neg (by omega), if_neg (by omega), if_neg (by omega)]

/-! ### The rows that are events -/

/-- Settles O59: each row is `onFrameEvent` or `onSequencerEvent`. -/
theorem codecAndSequencerEventsAreActedOn : Obligations.CodecAndSequencerEventsAreActedOn := by
  intro s now f r c
  have hready : exec (.feFrameReady now f) s = .next (onFrameEvent now (.frameReady f) s) := rfl
  have herror (hfits : now.toNat + s.cfg.t3Us < 2 ^ 64) :
      exec (.feChecksumError now r c) s = .next (onFrameEvent now (.checksumError r c) s) := withDeadline_of_fits _ hfits
  have hdone (hfits : now.toNat + s.cfg.t3Us < 2 ^ 64) : exec (.seDone now) s = .next (fastInitDone now s) :=
    withDeadline_of_fits _ hfits
  refine ⟨rfl, fun hp => ?_, fun hp => ?_, fun hfits hp => ?_, fun hfits hp => ?_, rfl, fun hfits => ?_⟩
  · rw [hready, onFrameEvent_frameReady_of_startSession now f hp]
  · rw [hready, onFrameEvent_frameReady_of_not now f hp]
  · rw [herror hfits, onFrameEvent_checksumError_of_startSession now r c hp]
  · rw [herror hfits, onFrameEvent_checksumError_of_not now r c hp]
  · rw [hdone hfits, fastInitDone_eq]

end Sys2Proof.Proofs
end

section
/-! PROOFS. 42_protocol_fsm.md: the receive drain, byte by byte and whole. -/

namespace Sys2Proof.Proofs
open Sys2Proof.Machine Sys2Proof.Safety

section
variable {now : Time} {s t u : State} {b : Byte} {rest : List Byte} {ev : FrameEvent}

/-! ### One drained byte -/

theorem drainByte_of_feed
    (hfeed : feedByte b { s with rxFifo := rest, watchdogDeadline := deadlineFrom now s } = .ok (u, ev)) :
    drainByte now b rest s = .ok (onFrameEvent now ev u) := by
  simp only [drainByte, hfeed]

/-- A field that no tick writes is the same after any of its operations. -/
theorem WithinTick.keeps {α : Type} {n : Nat} (field : State → α) (h : WithinTick n s t) :
    field (outsideTick t) = field (outsideTick s) := congrArg field h.outside

theorem onFrameEvent_cfg (now : Time) (ev : FrameEvent) (s : State) : (onFrameEvent now ev s).cfg = s.cfg := by
  obtain ⟨hwithin, -⟩ := withinTick_onFrameEvent (n := 0) now ev s
  exact hwithin.keeps State.cfg

theorem drainByte_cfg (h : drainByte now b rest s = .ok t) : t.cfg = s.cfg := by
  obtain ⟨u, ev, hfeed, rfl⟩ := drainByte_cases h
  rw [onFrameEvent_cfg, feedByte_frame hfeed]

/-- 42_protocol_fsm.md R176: the byte re-arms the watchdog, and an Init entry arms it to the same time. -/
theorem drainByte_watchdogDeadline (h : drainByte now b rest s = .ok t) : t.watchdogDeadline = deadlineFrom now s := by
  obtain ⟨u, ev, hfeed, rfl⟩ := drainByte_cases h
  have hcfg : u.cfg = s.cfg := by rw [feedByte_frame hfeed]
  have harmed : u.watchdogDeadline = deadlineFrom now s := by rw [feedByte_frame hfeed]
  have hagain : deadlineFrom now u = deadlineFrom now s := by rw [deadlineFrom, hcfg, deadlineFrom]
  obtain ⟨-, he⟩ | ⟨f, -, ⟨-, he⟩ | ⟨-, he⟩⟩ | ⟨r, c, -, ⟨-, he⟩ | ⟨-, he⟩⟩ := onFrameEvent_cases now ev u <;> rw [he]
  · exact harmed
  · exact harmed
  · exact harmed
  · exact hagain
  · exact harmed

/-- A drained byte leaves `fastinit_start` alone; an Init entry clears the latch only (10_state.md R26). -/
theorem drainByte_fastinitStart (h : drainByte now b rest s = .ok t) : t.fastinitStart = s.fastinitStart := by
  obtain ⟨u, ev, hfeed, rfl⟩ := drainByte_cases h
  have hu : u.fastinitStart = s.fastinitStart := by rw [feedByte_frame hfeed]
  rw [← hu]
  obtain ⟨-, he⟩ | ⟨f, -, ⟨-, he⟩ | ⟨-, he⟩⟩ | ⟨r, c, -, ⟨-, he⟩ | ⟨-, he⟩⟩ := onFrameEvent_cases now ev u <;>
    rw [he] <;> rfl

/-! ### The drain -/

theorem drain_of_empty (hempty : s.rxFifo = []) : drain now s = .ok s := by
  rw [drain, hempty, drainLoop]

/-- 42_protocol_fsm.md R175: after a byte the drain goes on from the state it left, unless it made a transition. -/
theorem drain_of_byte (hfifo : s.rxFifo = b :: rest) (hbyte : drainByte now b rest s = .ok t) :
    drain now s = if t.pstate = s.pstate then drain now t else .ok t := by
  rw [drain, hfifo, drain, drainByte_rxFifo hbyte]
  simp only [drainLoop, hbyte]

theorem drain_watchdogDeadline (hwaiting : s.rxFifo ≠ []) (h : drain now s = .ok t) :
    t.watchdogDeadline = deadlineFrom now s := by
  cases hfifo : s.rxFifo with
  | nil => exact absurd hfifo hwaiting
  | cons b rest =>
    cases hbyte : drainByte now b rest s with
    | error f => simp [drain, drainLoop, hfifo, hbyte] at h
    | ok u =>
      rw [drain_of_byte hfifo hbyte] at h
      have hu : u.watchdogDeadline = deadlineFrom now s ∧ u.cfg = s.cfg :=
        ⟨drainByte_watchdogDeadline hbyte, drainByte_cfg hbyte⟩
      split at h
      · refine (drain_keeps (P := fun v => v.watchdogDeadline = deadlineFrom now s ∧ v.cfg = s.cfg) ?_ hu h).1
        rintro b rest v w ⟨-, hcfg⟩ - - hw
        exact ⟨by rw [drainByte_watchdogDeadline hw, deadlineFrom, hcfg, deadlineFrom], (drainByte_cfg hw).trans hcfg⟩
      · cases h
        exact hu.1

theorem drain_fastinitStart (h : drain now s = .ok t) : t.fastinitStart = s.fastinitStart :=
  drain_keeps (P := fun u => u.fastinitStart = s.fastinitStart)
    (fun _ _ _ _ hu _ _ hv => (drainByte_fastinitStart hv).trans hu) rfl h

/-! ### RX_DRAIN -/

section
variable (hfits : now.toNat + s.cfg.t3Us < 2 ^ 64)
include hfits

theorem exec_rxDrain_of_fits : exec (.rxDrain now) s = outcomeOf (drain now s) := withDeadline_of_fits _ hfits

theorem exec_rxDrain_of_stay (hfifo : s.rxFifo = b :: rest) (hbyte : drainByte now b rest s = .ok t)
    (hp : t.pstate = s.pstate) : exec (.rxDrain now) s = exec (.rxDrain now) t := by
  rw [exec_rxDrain_of_fits hfits, drain_of_byte hfifo hbyte, if_pos hp, exec_rxDrain_of_fits]
  rwa [drainByte_cfg hbyte]

theorem exec_rxDrain_of_move (hfifo : s.rxFifo = b :: rest) (hbyte : drainByte now b rest s = .ok t)
    (hp : t.pstate ≠ s.pstate) : exec (.rxDrain now) s = .next t := by
  rw [exec_rxDrain_of_fits hfits, drain_of_byte hfifo hbyte, if_neg hp, outcomeOf]

end

end

/-- An offer makes no transition. -/
@[simp] theorem afterEnqueue_pstate (rec : Record) (s : State) : (afterEnqueue rec s).pstate = s.pstate := by
  rw [← offer_eq]
  rfl

/-- Settles O35: the oldest byte's event is acted on by `onFrameEvent`, and the drain ends where `pstate` changes. -/
theorem drainTakesTheOldestByte : Obligations.DrainTakesTheOldestByte := by
  intro s u now b rest ev hfifo hfits hfeed
  have hbyte : drainByte now b rest s = .ok (onFrameEvent now ev u) := drainByte_of_feed hfeed
  have hp : u.pstate = s.pstate := by rw [feedByte_frame hfeed]
  have hcfg : u.cfg = s.cfg := by rw [feedByte_frame hfeed]
  have herrors : u.errorCounter = s.errorCounter := by rw [feedByte_frame hfeed]
  refine ⟨fun hev => ?_, fun f hev hstart => ?_, fun f hev hnot => ?_, fun r c hev hstart => ?_, fun r c hev hnot => ?_⟩ <;>
    subst hev
  · exact exec_rxDrain_of_stay hfits hfifo hbyte hp
  · rw [onFrameEvent_frameReady_of_startSession now f (hp.trans hstart)] at hbyte
    exact exec_rxDrain_of_move hfits hfifo hbyte (by simp [enteredActive, hstart])
  · rw [onFrameEvent_frameReady_of_not now f (by rwa [hp])] at hbyte
    rw [← hcfg]
    exact exec_rxDrain_of_stay hfits hfifo hbyte (by rw [afterEnqueue_pstate, hp])
  · rw [onFrameEvent_checksumError_of_startSession now r c (hp.trans hstart)] at hbyte
    exact exec_rxDrain_of_move hfits hfifo hbyte (by simp [enteredInit, hstart])
  · rw [onFrameEvent_checksumError_of_not now r c (by rwa [hp]), herrors] at hbyte
    exact exec_rxDrain_of_stay hfits hfifo hbyte hp

/-- Settles O36: the drain completes by `CodecSound.drain_completes`, within what a tick writes. -/
theorem drainCompletes : Obligations.DrainCompletes := by
  intro s now hsound hfits
  obtain ⟨t, hdrain, -⟩ := (codecSound_of_sound hsound).drain_completes now
  obtain ⟨hwhole, htaken⟩ := drainLoop_rxFifo rfl hdrain
  have hwithin := withinTick_drain (s := s) le_rfl hdrain
  have hsame (hempty : s.rxFifo = []) : t = s := by
    rw [drain_of_empty hempty] at hdrain
    cases hdrain
    rfl
  exact ⟨t, exec_rxDrain_of_ok hfits hdrain, hsame, fun hwaiting => drain_watchdogDeadline hwaiting hdrain, hwhole,
    htaken, hwithin.keeps State.running, drain_fastinitStart hdrain, hwithin.keeps State.restartReq,
    hwithin.keeps State.tickOrigin, hwithin.keeps State.tickCount, hwithin.keeps State.lastSample,
    hwithin.keeps State.initDone, hwithin.keeps State.cfg, hwithin.keeps State.resultOut, hwithin.keeps State.popOut,
    hwithin.keeps State.stimulus, hwithin.buffer⟩

end Sys2Proof.Proofs
end

section
/-! PROOFS. 42_protocol_fsm.md: the transitions of a tick, and what the events can write. -/

namespace Sys2Proof.Proofs
open Sys2Proof.Machine Sys2Proof.Safety

section
variable {now : Time} {s t : State}

/-! ### The transitions of a drain -/

/-- From `s` to `t` the protocol state stays, or leaves StartSession for Active or Init. -/
def StaysOrLeavesStart (s t : State) : Prop :=
  t.pstate = s.pstate ∨ s.pstate = .startSession ∧ (t.pstate = .active ∨ t.pstate = .init)

theorem staysOrLeavesStart_onFrameEvent (now : Time) (ev : FrameEvent) (s : State) :
    StaysOrLeavesStart s (onFrameEvent now ev s) := by
  obtain ⟨-, h⟩ | ⟨f, -, ⟨hp, h⟩ | ⟨-, h⟩⟩ | ⟨r, c, -, ⟨hp, h⟩ | ⟨-, h⟩⟩ := onFrameEvent_cases now ev s <;> rw [h]
  · exact .inl rfl
  · exact .inr ⟨hp, .inl rfl⟩
  · exact .inl rfl
  · exact .inr ⟨hp, .inr rfl⟩
  · exact .inl rfl

theorem staysOrLeavesStart_drainByte {b : Byte} {rest : List Byte} (h : drainByte now b rest s = .ok t) :
    StaysOrLeavesStart s t := by
  obtain ⟨u, ev, hfeed, rfl⟩ := drainByte_cases h
  have hu : u.pstate = s.pstate := by rw [feedByte_frame hfeed]
  have hacted := staysOrLeavesStart_onFrameEvent now ev u
  rwa [StaysOrLeavesStart, hu] at hacted

/-- 42_protocol_fsm.md R175: a drain ends with its first transition. -/
theorem staysOrLeavesStart_drain (h : drain now s = .ok t) : StaysOrLeavesStart s t := by
  refine drain_keeps (P := StaysOrLeavesStart s) (fun b rest u v _ hp _ hv => ?_) (.inl rfl) h
  have hbyte := staysOrLeavesStart_drainByte hv
  rwa [StaysOrLeavesStart, hp] at hbyte

/-! ### The transitions of a tick -/

theorem transmit_pstate (now : Time) (s : State) : (transmit now s).pstate = s.pstate := by
  rw [transmit_frame]

/-- 42_protocol_fsm.md R173: with no byte waiting the body is the watchdog check, and before the deadline a transmission. -/
theorem sessionBody_cases_of_empty (hempty : s.rxFifo = []) (h : sessionBody now s = .ok t) :
    (s.watchdogDeadline.toNat < now.toNat ∧
      ((s.pstate = .startSession ∧ t = toInit now { raise (.x2 now s.watchdogDeadline) s with lastFrameEnd := now }) ∨
       (s.pstate = .active ∧
         t = toStartSession now { raise (.x2 now s.watchdogDeadline) s with lastFrameEnd := now }))) ∨
    (now.toNat ≤ s.watchdogDeadline.toNat ∧ t = transmit now s) := by
  obtain ⟨-, hexpired | ⟨u, hwaits, rfl⟩⟩ | ⟨hwaiting, -⟩ := sessionBody_cases h
  · obtain ⟨-, hfalse, -⟩ | ⟨hlate, -, hentered⟩ := checkWatchdog_cases hexpired
    · cases hfalse
    · exact .inl ⟨hlate, hentered⟩
  · obtain ⟨hearly, -, rfl⟩ | ⟨-, hfalse, -⟩ := checkWatchdog_cases hwaits
    · exact .inr ⟨hearly, rfl⟩
    · cases hfalse
  · exact absurd hempty hwaiting

theorem sessionBody_pstate_startSession (hp : s.pstate = .startSession) (hempty : s.rxFifo = [])
    (h : sessionBody now s = .ok t) :
    t.pstate = if s.watchdogDeadline.toNat < now.toNat then .init else .startSession := by
  obtain ⟨hlate, ⟨-, rfl⟩ | ⟨hactive, -⟩⟩ | ⟨hearly, rfl⟩ := sessionBody_cases_of_empty hempty h
  · rw [if_pos hlate]
    rfl
  · rw [hp] at hactive
    cases hactive
  · rw [if_neg (not_lt.2 hearly), transmit_pstate, hp]

theorem sessionBody_pstate_active (hp : s.pstate = .active) (hempty : s.rxFifo = [])
    (h : sessionBody now s = .ok t) :
    t.pstate = if s.watchdogDeadline.toNat < now.toNat then .startSession else .active := by
  obtain ⟨hlate, ⟨hstart, -⟩ | ⟨-, rfl⟩⟩ | ⟨hearly, rfl⟩ := sessionBody_cases_of_empty hempty h
  · rw [hp] at hstart
    cases hstart
  · rw [if_pos hlate]
    rfl
  · rw [if_neg (not_lt.2 hearly), transmit_pstate, hp]

/-- With bytes waiting the body's transition is the drain's. -/
theorem staysOrLeavesStart_sessionBody (hwaiting : s.rxFifo ≠ []) (h : sessionBody now s = .ok t) :
    StaysOrLeavesStart s t := by
  obtain ⟨hempty, -⟩ | ⟨-, u, hdrain, ⟨-, rfl⟩ | ⟨-, rfl⟩⟩ := sessionBody_cases h
  · exact absurd hempty hwaiting
  · have hdrained := staysOrLeavesStart_drain hdrain
    rwa [StaysOrLeavesStart, ← transmit_pstate now u] at hdrained
  · exact staysOrLeavesStart_drain hdrain

/-- 42_protocol_fsm.md R171, R172: an Init tick leaves Init at the end of the sequence. -/
theorem tickInInit_pstate (hp : s.pstate = .init) :
    (tickInInit now s).pstate =
      if (sequenceStart now s).toNat + (s.cfg.t1Us + 2 * s.cfg.t2Us) ≤ now.toNat then .startSession else .init := by
  rw [tickInInit]
  split
  next hover =>
    rw [sequencerStep_of_le hover]
    rfl
  next hbefore =>
    obtain ⟨l, hstep⟩ := sequencerStep_of_lt (s := s) (not_le.1 hbefore)
    rw [hstep]
    exact hp

/-- A tick is the arm of its state (42_protocol_fsm.md R170). -/
theorem tick_of_init (hp : s.pstate = .init) (h : tick now s = .ok t) : t = tickInInit now s := by
  simp only [tick, hp] at h
  cases h
  rfl

theorem tick_of_startSession (hp : s.pstate = .startSession) (h : tick now s = .ok t) : sessionBody now s = .ok t := by
  simpa [tick, hp, tickInSession] using h

theorem tick_of_active (hp : s.pstate = .active) (h : tick now s = .ok t) : tickInSession now s = .ok t := by
  simpa only [tick, hp] using h

theorem tick_of_illegal (hp : s.pstate = .illegal) (h : tick now s = .ok t) : t = tickInIllegal now s := by
  simp only [tick, hp] at h
  cases h
  rfl

theorem tick_of_active_belowThreshold (hp : s.pstate = .active) (hbelow : s.errorCounter.toNat < s.cfg.errThreshold)
    (h : tick now s = .ok t) : sessionBody now s = .ok t := by
  obtain ⟨-, hreached, -⟩ | ⟨-, hbody⟩ := tickInSession_cases (tick_of_active hp h)
  · exact absurd hbelow (not_lt.2 hreached)
  · exact hbody

theorem tick_of_active_atThreshold (hp : s.pstate = .active) (hreached : s.cfg.errThreshold ≤ s.errorCounter.toNat)
    (h : tick now s = .ok t) : t = toStartSession now { s with lastFrameEnd := now } := by
  obtain ⟨-, -, rfl⟩ | ⟨hbelow, -⟩ := tickInSession_cases (tick_of_active hp h)
  · rfl
  · exact absurd (hbelow hp) (not_lt.2 hreached)

theorem tick_pstate_ne_illegal_of_startSession (hp : s.pstate = .startSession) (h : tick now s = .ok t) :
    t.pstate ≠ .illegal := by
  have hbody := tick_of_startSession hp h
  by_cases hempty : s.rxFifo = []
  · rw [sessionBody_pstate_startSession hp hempty hbody]
    split <;> exact PState.noConfusion
  · obtain hstays | ⟨-, hactive | hinit⟩ := staysOrLeavesStart_sessionBody hempty hbody
    · simp [hstays, hp]
    · simp [hactive]
    · simp [hinit]

theorem tick_pstate_of_active_waiting (hp : s.pstate = .active) (hbelow : s.errorCounter.toNat < s.cfg.errThreshold)
    (hwaiting : s.rxFifo ≠ []) (h : tick now s = .ok t) : t.pstate = .active := by
  obtain hstays | ⟨hstart, -⟩ := staysOrLeavesStart_sessionBody hwaiting (tick_of_active_belowThreshold hp hbelow h)
  · rw [hstays, hp]
  · rw [hp] at hstart
    cases hstart

end

/-- Settles O25: the arm of each state, from the counted state. -/
theorem tickTransitionTable : Obligations.TickTransitionTable := by
  intro s t now h
  obtain ⟨-, -, -, htick⟩ := execEvTick_cases h
  refine ⟨fun hp => ?_, fun hp hempty => ?_, fun hp => ?_, fun hp hreached => ?_, fun hp hbelow hempty => ?_,
    fun hp hbelow hwaiting => ?_, fun hp => ?_⟩
  · obtain rfl := tick_of_init (s := countTick now s) hp htick
    exact tickInInit_pstate (s := countTick now s) hp
  · exact sessionBody_pstate_startSession (s := countTick now s) hp hempty (tick_of_startSession hp htick)
  · exact tick_pstate_ne_illegal_of_startSession (s := countTick now s) hp htick
  · obtain rfl := tick_of_active_atThreshold (s := countTick now s) hp hreached htick
    rfl
  · exact sessionBody_pstate_active (s := countTick now s) hp hempty
      (tick_of_active_belowThreshold (s := countTick now s) hp hbelow htick)
  · exact tick_pstate_of_active_waiting (s := countTick now s) hp hbelow hwaiting htick
  · obtain rfl := tick_of_illegal (s := countTick now s) hp htick
    rfl

/-! ### What the events can write -/

/-- A START never writes `restart_req` (10_state.md R48). -/
theorem startBlock_restartReq {now : Time} {l d : Bool} {s t : State} {c : ResultCode}
    (h : startBlock now l d s = .ok (t, c)) : t.restartReq = s.restartReq := by
  obtain ⟨-, ⟨-, -, rfl⟩ | ⟨-, -, -, rfl⟩ | ⟨-, -, -, ⟨-, -, rfl⟩ | ⟨-, -, rfl⟩⟩⟩ := startBlock_cases h
  · rfl
  · rfl
  · simp [sessionReset]
  · simp [sessionReset]

/-- A STOP writes neither `restart_req` nor `pstate` (10_state.md R48). -/
theorem stopBlock_restartReq_pstate (d l : Bool) (s : State) :
    (stopBlock d l s).1.restartReq = s.restartReq ∧ (stopBlock d l s).1.pstate = s.pstate := by
  obtain ⟨-, h⟩ | ⟨-, -, h⟩ | ⟨-, -, -, h⟩ | ⟨-, -, -, h⟩ := stopBlock_cases d l s <;> rw [h] <;> exact ⟨rfl, rfl⟩

/-- A tick writes neither `running` nor `restart_req` (10_state.md R48). -/
theorem execEvTick_running_restartReq {now : Time} {s t : State} (h : execEvTick now s = .next t) :
    t.running = s.running ∧ t.restartReq = s.restartReq := by
  obtain ⟨-, -, -, htick⟩ := execEvTick_cases h
  have hwithin := withinTick_tick (s := countTick now s) le_rfl htick
  exact ⟨hwithin.keeps State.running, hwithin.keeps State.restartReq⟩

/-- Settles O14: each event is among those named, or leaves the field as it was. -/
theorem onlyControlEventsWriteTheFlags : Obligations.OnlyControlEventsWriteTheFlags := by
  intro i s t hevent h
  cases i with
  | evInit => exact ⟨fun _ => .inl rfl, fun _ => .inl rfl, fun _ => .inl rfl⟩
  | evStart now l d =>
    obtain ⟨u, c, hstart, rfl⟩ := execEvStart_cases h
    exact ⟨fun _ => .inr (.inl ⟨now, l, d, rfl⟩), fun hne => absurd (startBlock_restartReq hstart) hne,
      fun _ => .inr (.inl ⟨now, l, d, rfl⟩)⟩
  | evStop d l =>
    cases h
    obtain ⟨hrestart, hp⟩ := stopBlock_restartReq_pstate d l s
    exact ⟨fun _ => .inr (.inr (.inl ⟨d, l, rfl⟩)), fun hne => absurd hrestart hne, fun hne => absurd hp hne⟩
  | evTick now =>
    obtain ⟨hrunning, hrestart⟩ := execEvTick_running_restartReq h
    exact ⟨fun hne => absurd hrunning hne, fun hne => absurd hrestart hne, fun _ => .inr (.inr (.inl ⟨now, rfl⟩))⟩
  | evPayload p now a b c d =>
    exact ⟨fun _ => .inr (.inr (.inr ⟨p, now, a, b, c, d, rfl⟩)), fun _ => .inr ⟨p, now, a, b, c, d, rfl⟩,
      fun _ => .inr (.inr (.inr ⟨p, now, a, b, c, d, rfl⟩))⟩
  | evPop =>
    obtain ⟨r, rest, -, rfl⟩ := execEvPop_cases h
    exact ⟨absurd rfl, absurd rfl, absurd rfl⟩
  | evRxByte | evConnected | evDisconnected =>
    cases h
    exact ⟨absurd rfl, absurd rfl, absurd rfl⟩
  | _ => exact absurd hevent Bool.false_ne_true

/-! ### No event faults -/

theorem noFault_evTick {s : State} (h : CodecSound s) (now : Time) : noFault (execEvTick now s) = true := by
  have hcounted : CodecSound (countTick now s) := h.of_eq rfl rfl rfl rfl rfl
  obtain ⟨t, ht⟩ := hcounted.tick_completes now
  rw [execEvTick, ht]
  split
  · split
    · rfl
    · split <;> rfl
  · rfl

theorem noFault_dispatchStart (now : Time) (l d : Bool) (s : State) : noFault (dispatchStart now l d s) = true := by
  rw [dispatchStart]
  split <;> rfl

/-- Of the nine events only a tick runs operations that can fault, and on a sound state those complete. -/
theorem noFault_event {i : Instr} {s : State} (h : CodecSound s) (hevent : isEvent i = true) :
    noFault (exec i s) = true := by
  cases i with
  | evTick now => exact noFault_evTick h now
  | evStart now l d =>
    rw [show exec (.evStart now l d) s = execEvStart now l d s from rfl, execEvStart]
    split <;> rfl
  | evPayload p now a b c d =>
    rw [exec_evPayload, execEvPayload]
    split
    · exact noFault_dispatchStart now a b s
    · rfl
    · rfl
    · rfl
  | evPop =>
    rw [exec_evPop, execEvPop]
    split <;> rfl
  | evInit | evStop | evRxByte | evConnected | evDisconnected => rfl
  | _ => exact absurd hevent Bool.false_ne_true

/-- Settles O10: a step is a refusal of the boot order or `exec` of its event. -/
theorem eventStepNeverFaults : Obligations.EventStepNeverFaults := by
  intro s hsound hnext
  cases hfetch : fetch s with
  | error r => simp [nextIsEvent, hfetch] at hnext
  | ok i =>
    have hevent : isEvent i = true := by simpa [nextIsEvent, hfetch] using hnext
    have hconsumed : CodecSound (consume s) := (codecSound_of_sound hsound).of_eq rfl rfl rfl rfl rfl
    simp only [step, hfetch]
    split
    · rfl
    · exact noFault_event hconsumed hevent

end Sys2Proof.Proofs
end

section
/-! PROOFS. 43_tick_scheduler.md, 70_reset_and_hazards.md: how much a tick sends and offers, and when it sends nothing. -/

namespace Sys2Proof.Proofs
open Sys2Proof.Machine Sys2Proof.Safety

/-- From `s` to `t` the trace grows by at most `sent` transmitted bytes and at most `offers` offered records, among others, and
the receive FIFO does not grow. -/
def Bounded (sent offers : Nat) (s t : State) : Prop :=
  ∃ added, t.trace = s.trace ++ added ∧ added.countP isTransmission ≤ sent ∧ added.countP isOffer ≤ offers ∧
    t.rxFifo.length ≤ s.rxFifo.length

section
variable {m n m' n' : Nat} {now : Time} {s t u : State}

theorem Bounded.trans (hst : Bounded m n s t) (htu : Bounded m' n' t u) : Bounded (m + m') (n + n') s u := by
  obtain ⟨es, hes, hsent, hoffers, hfifo⟩ := hst
  obtain ⟨fs, hfs, hsent', hoffers', hfifo'⟩ := htu
  refine ⟨es ++ fs, by rw [hfs, hes, List.append_assoc], ?_, ?_, hfifo'.trans hfifo⟩
  · rw [List.countP_append]
    exact Nat.add_le_add hsent hsent'
  · rw [List.countP_append]
    exact Nat.add_le_add hoffers hoffers'

theorem Bounded.mono (h : Bounded m n s t) (hm : m ≤ m') (hn : n ≤ n') : Bounded m' n' s t := by
  obtain ⟨added, htrace, hsent, hoffers, hfifo⟩ := h
  exact ⟨added, htrace, hsent.trans hm, hoffers.trans hn, hfifo⟩

theorem bounded_of_trace_eq (htrace : t.trace = s.trace) (hfifo : t.rxFifo.length ≤ s.rxFifo.length) : Bounded 0 0 s t :=
  ⟨[], by rw [htrace, List.append_nil], le_rfl, le_rfl, hfifo⟩

/-! ### The operations of a tick -/

theorem bounded_raise (a : Anomaly) (s : State) : Bounded 0 0 s (raise a s) := ⟨_, rfl, le_rfl, le_rfl, le_rfl⟩

theorem bounded_setLineMode (mode : LineMode) (s : State) : Bounded 0 0 s (setLineMode mode s) :=
  ⟨_, rfl, by split <;> exact le_rfl, by split <;> exact le_rfl, le_rfl⟩

theorem bounded_setLineLevel (l : LineLevel) (s : State) : Bounded 0 0 s (setLineLevel l s) :=
  ⟨_, rfl, by split <;> exact le_rfl, by split <;> exact le_rfl, le_rfl⟩

theorem bounded_lineIdle (mode : LineMode) (s : State) : Bounded 0 0 s (setLineLevel .high (setLineMode mode s)) :=
  (bounded_setLineMode mode s).trans (bounded_setLineLevel .high _)

/-- An offer, taken or refused, is one record in the trace. -/
theorem bounded_offer (rec : Record) (s : State) : Bounded 0 1 s (offer rec s) := by
  obtain ⟨-, h⟩ | ⟨-, h⟩ := offer_cases rec s <;> rw [h]
  · exact ⟨_, rfl, le_rfl, le_rfl, le_rfl⟩
  · exact ⟨_, rfl, le_rfl, le_rfl, le_rfl⟩

theorem bounded_sendStatus (st : Status) (s : State) : Bounded 0 1 s (sendStatus st s) := bounded_offer _ s

theorem bounded_toInit (now : Time) (s : State) : Bounded 0 1 s (toInit now s) := by
  have hentered : Bounded 0 1 _ (toInit now s) := bounded_sendStatus .init _
  exact Bounded.trans (bounded_lineIdle .pulse s) hentered

theorem bounded_toStartSession (now : Time) (s : State) : Bounded 0 1 s (toStartSession now s) :=
  bounded_sendStatus .startSession _

theorem bounded_toActive (now : Time) (s : State) : Bounded 0 1 s (toActive now s) := bounded_sendStatus .active _

/-- 42_protocol_fsm.md R183: a command has at most 7 bytes. -/
theorem bounded_transmit (now : Time) (s : State) : Bounded 7 0 s (transmit now s) := by
  obtain h | ⟨-, -, n, -, h⟩ := transmit_cases now s <;> rw [h]
  · exact (bounded_of_trace_eq rfl le_rfl).mono (Nat.zero_le _) le_rfl
  · have hlen : (((commandOf s.pstate).drop s.sentCount.toNat).take n).length ≤ 7 := by
      have hcommand := commandOf_length s.pstate
      simp only [List.length_take, List.length_drop]
      omega
    refine ⟨_, rfl, List.countP_le_length.trans (by simpa using hlen), ?_, le_rfl⟩
    refine (List.countP_eq_zero.2 fun e he => ?_).le
    obtain ⟨b, -, rfl⟩ := List.mem_map.1 he
    exact Bool.false_ne_true

theorem bounded_tickInInit (now : Time) (s : State) : Bounded 0 1 s (tickInInit now s) := by
  rw [tickInInit]
  obtain ⟨-, l, h⟩ | ⟨-, h⟩ := sequencerStep_cases now s <;> rw [h]
  · exact (bounded_setLineLevel l (latchStart now s)).mono le_rfl (Nat.zero_le _)
  · have hstepped : Bounded 0 0 s (setLineLevel .high (latchStart now s)) :=
      bounded_setLineLevel .high (latchStart now s)
    have hflushed : Bounded 0 0 _ (flushRx (clearLatch (setLineLevel .high (latchStart now s)))) :=
      bounded_of_trace_eq (s := setLineLevel .high (latchStart now s)) rfl (Nat.zero_le _)
    exact ((hstepped.trans hflushed).trans (bounded_lineIdle .uart _)).trans (bounded_toStartSession now _)

theorem bounded_feedByte {b : Byte} {ev : FrameEvent} (h : feedByte b s = .ok (t, ev)) : Bounded 0 0 s t := by
  have hfifo : t.rxFifo.length ≤ s.rxFifo.length := by rw [feedByte_frame h]
  obtain htrace | htrace := feedByte_trace h
  · exact bounded_of_trace_eq htrace hfifo
  · exact ⟨_, htrace, le_rfl, le_rfl, hfifo⟩

/-- An event of the codec offers at most one record, a frame's or a status. -/
theorem bounded_onFrameEvent (now : Time) (ev : FrameEvent) (s : State) : Bounded 0 1 s (onFrameEvent now ev s) := by
  obtain ⟨-, h⟩ | ⟨f, -, ⟨-, h⟩ | ⟨-, h⟩⟩ | ⟨r, c, -, ⟨-, h⟩ | ⟨-, h⟩⟩ := onFrameEvent_cases now ev s <;> rw [h]
  · exact (bounded_of_trace_eq rfl le_rfl).mono le_rfl (Nat.zero_le _)
  · exact bounded_toActive now { s with lastFrameEnd := now }
  · exact bounded_offer (frameRecord s.cfg f) { s with lastFrameEnd := now, errorCounter := 0 }
  · exact (bounded_raise (.x1 r c) s).trans (bounded_toInit now { raise (.x1 r c) s with lastFrameEnd := now })
  · exact (bounded_raise (.x1 r c) s).mono le_rfl (Nat.zero_le _)

theorem bounded_drainByte {b : Byte} {rest : List Byte} (hfifo : s.rxFifo = b :: rest)
    (h : drainByte now b rest s = .ok t) : Bounded 0 1 s t := by
  obtain ⟨u, ev, hfeed, rfl⟩ := drainByte_cases h
  have hpopped : Bounded 0 0 s { s with rxFifo := rest, watchdogDeadline := deadlineFrom now s } :=
    bounded_of_trace_eq rfl (by simp [hfifo])
  exact (hpopped.trans (bounded_feedByte hfeed)).trans (bounded_onFrameEvent now ev u)

/-- A drain offers at most one record for each byte it takes. -/
theorem bounded_drain (h : drain now s = .ok t) : Bounded 0 s.rxFifo.length s t := by
  have htaken : Bounded 0 (s.rxFifo.length - t.rxFifo.length) s t := by
    refine drain_keeps (P := fun u => Bounded 0 (s.rxFifo.length - u.rxFifo.length) s u)
      (fun b rest u v hu _ hfifo hv => ?_) ((bounded_of_trace_eq rfl le_rfl).mono le_rfl (Nat.zero_le _)) h
    have hrest := drainByte_rxFifo hv
    obtain ⟨-, -, -, -, hnoMore⟩ := id hu
    refine (hu.trans (bounded_drainByte hfifo hv)).mono le_rfl ?_
    rw [hfifo, List.length_cons] at hnoMore ⊢
    rw [hrest]
    omega
  exact htaken.mono le_rfl (Nat.sub_le _ _)

theorem bounded_checkWatchdog {r : Bool} (h : checkWatchdog now s = .ok (t, r)) : Bounded 0 1 s t := by
  have hraised := bounded_raise (.x2 now s.watchdogDeadline) s
  obtain ⟨-, -, rfl⟩ | ⟨-, -, ⟨-, rfl⟩ | ⟨-, rfl⟩⟩ := checkWatchdog_cases h
  · exact (bounded_of_trace_eq rfl le_rfl).mono le_rfl (Nat.zero_le _)
  · exact hraised.trans (bounded_toInit now { raise (.x2 now s.watchdogDeadline) s with lastFrameEnd := now })
  · exact hraised.trans (bounded_toStartSession now { raise (.x2 now s.watchdogDeadline) s with lastFrameEnd := now })

theorem bounded_sessionBody (h : sessionBody now s = .ok t) : Bounded 7 (s.rxFifo.length + 1) s t := by
  obtain ⟨-, hexpired | ⟨u, hwaits, rfl⟩⟩ | ⟨-, u, hdrain, ⟨-, rfl⟩ | ⟨-, rfl⟩⟩ := sessionBody_cases h
  · exact (bounded_checkWatchdog hexpired).mono (Nat.zero_le _) (Nat.le_add_left _ _)
  · exact ((bounded_checkWatchdog hwaits).trans (bounded_transmit now u)).mono le_rfl (Nat.le_add_left _ _)
  · exact ((bounded_drain hdrain).trans (bounded_transmit now u)).mono le_rfl (Nat.le_succ _)
  · exact (bounded_drain hdrain).mono (Nat.zero_le _) (Nat.le_succ _)

theorem bounded_tick (h : tick now s = .ok t) : Bounded 7 (s.rxFifo.length + 1) s t := by
  have hentry {v : State} (hv : Bounded 0 1 s v) : Bounded 7 (s.rxFifo.length + 1) s v :=
    hv.mono (Nat.zero_le _) (Nat.le_add_left _ _)
  obtain ⟨-, u, ev, hstep, rfl⟩ | ⟨-, hsession⟩ | ⟨-, rfl⟩ := tick_cases h
  · simpa only [tickInInit, hstep] using hentry (bounded_tickInInit now s)
  · obtain ⟨-, -, rfl⟩ | ⟨-, hbody⟩ := tickInSession_cases hsession
    · exact hentry (bounded_toStartSession now { s with lastFrameEnd := now })
    · exact bounded_sessionBody hbody
  · exact hentry ((bounded_raise (.x3 .illegal) s).trans (bounded_toInit now (raise (.x3 .illegal) s)))

end

/-- Settles O27: `bounded_tick` from the counted state, whose trace and FIFO are those of `s`. -/
theorem tickIsBounded : Obligations.TickIsBounded := by
  intro s t now h
  obtain ⟨-, -, -, htick⟩ := execEvTick_cases h
  exact bounded_tick (s := countTick now s) htick

/-! ### The long quiet period -/

/-- What adds no transmitted byte to the trace adds none to the transmitted stream. -/
theorem Bounded.transmitted_eq {n : Nat} {s t : State} (h : Bounded 0 n s t) : transmitted t = transmitted s := by
  obtain ⟨added, htrace, hsent, -⟩ := h
  have hnone : ∀ e ∈ added, ¬isTransmission e = true := List.countP_eq_zero.1 (Nat.le_zero.1 hsent)
  rw [transmitted, transmitted, htrace, List.filterMap_append, List.append_right_eq_self, List.filterMap_eq_nil_iff]
  intro e he
  cases e with
  | tx b => exact absurd rfl (hnone _ he)
  | _ => rfl

/-- 70_reset_and_hazards.md R338: the watchdog takes the session down before the quiet period is over. -/
theorem transmitted_sessionBody {now : Time} {s t : State} (hquiet : s.cfg.t3Us < s.cfg.t4Us) (hempty : s.rxFifo = [])
    (hdeadline : s.watchdogDeadline.toNat ≤ s.lastFrameEnd.toNat + s.cfg.t3Us) (h : sessionBody now s = .ok t) :
    transmitted t = transmitted s := by
  have hraised := bounded_raise (.x2 now s.watchdogDeadline) s
  obtain ⟨-, ⟨-, rfl⟩ | ⟨-, rfl⟩⟩ | ⟨hearly, rfl⟩ := sessionBody_cases_of_empty hempty h
  · exact (hraised.trans
      (bounded_toInit now { raise (.x2 now s.watchdogDeadline) s with lastFrameEnd := now })).transmitted_eq
  · exact (hraised.trans
      (bounded_toStartSession now { raise (.x2 now s.watchdogDeadline) s with lastFrameEnd := now })).transmitted_eq
  · rw [transmit_of_notQuiet (by omega)]

/-- Settles O28: the threshold check's entry sends nothing, and the rest is `transmitted_sessionBody`. -/
theorem longQuietPeriodNeverSends : Obligations.LongQuietPeriodNeverSends := by
  intro s t now hquiet hp hempty hdeadline h
  obtain ⟨-, -, -, htick⟩ := execEvTick_cases h
  obtain ⟨-, -, rfl⟩ | ⟨-, hbody⟩ := tickInSession_cases (tick_of_active (s := countTick now s) hp htick)
  · exact (bounded_toStartSession now { countTick now s with lastFrameEnd := now }).transmitted_eq
  · exact transmitted_sessionBody (s := countTick now s) hquiet hempty hdeadline hbody

end Sys2Proof.Proofs
end

section
/-! PROOFS. 10_state.md: every row keeps `Sound`, and none writes the configuration. -/

namespace Sys2Proof.Proofs
open Sys2Proof.Machine Sys2Proof.Safety

/-! ### What an operation keeps -/

/-- The fields that `Sound` reads, every other field at its reset value. -/
def soundView (s : State) : State :=
  { State.reset with
    inCount := s.inCount, sentCount := s.sentCount, expectedLength := s.expectedLength, frameLen := s.frameLen,
    frameBuf := s.frameBuf, queue := s.queue, rxFifo := s.rxFifo, lineMode := s.lineMode, cfg := s.cfg }

theorem sound_soundView {s : State} : Sound (soundView s) ↔ Sound s :=
  ⟨fun h => { h with }, fun h => { h with }⟩

/-- From `s` to `t` the configuration stays and, if 00_scope.md R10 allows it, so does `Sound`. -/
structure KeepsSound (s t : State) : Prop where
  cfg : t.cfg = s.cfg
  sound : LegalConfig s.cfg → Sound s → Sound t

section
variable {now : Time} {s t u : State}

theorem KeepsSound.trans (hst : KeepsSound s t) (htu : KeepsSound t u) : KeepsSound s u :=
  ⟨htu.cfg.trans hst.cfg, fun hlegal hs => htu.sound (by rwa [hst.cfg]) (hst.sound hlegal hs)⟩

theorem keepsSound_of_view (h : soundView t = soundView s) : KeepsSound s t := by
  have hcfg : (soundView t).cfg = (soundView s).cfg := congrArg State.cfg h
  exact ⟨hcfg, fun _ hs => sound_soundView.1 (h ▸ sound_soundView.2 hs)⟩

/-- An operation that follows an update of other fields. -/
theorem KeepsSound.after (htu : KeepsSound t u) (hview : soundView t = soundView s) : KeepsSound s u :=
  (keepsSound_of_view hview).trans htu

/-- A change of the line: a mode that is written, and a FIFO that does not grow. -/
theorem keepsSound_of_line (hmode : s.lineMode ≠ .unused3 → t.lineMode ≠ .unused3)
    (hfifo : t.rxFifo.length ≤ s.rxFifo.length)
    (hview : soundView t = soundView { s with lineMode := t.lineMode, rxFifo := t.rxFifo }) : KeepsSound s t := by
  have hline : KeepsSound s { s with lineMode := t.lineMode, rxFifo := t.rxFifo } :=
    ⟨rfl, fun _ hs => { hs with fifoBound := hfifo.trans hs.fifoBound, modeWritten := hmode hs.modeWritten }⟩
  exact hline.trans (keepsSound_of_view hview)

/-- An operation that follows a change of the line. -/
theorem KeepsSound.afterLine (htu : KeepsSound t u) (hmode : s.lineMode ≠ .unused3 → t.lineMode ≠ .unused3)
    (hfifo : t.rxFifo.length ≤ s.rxFifo.length)
    (hview : soundView t = soundView { s with lineMode := t.lineMode, rxFifo := t.rxFifo }) : KeepsSound s u :=
  (keepsSound_of_line hmode hfifo hview).trans htu

/-- EOF_RESET and every session entry start from counters at 0 (40_frame_codec.md R130). -/
theorem keepsSound_clearFrame (s : State) : KeepsSound s (clearFrame s) := by
  refine ⟨rfl, fun _ hs => ?_⟩
  obtain ⟨hwritten, hcounted, hsent, hcount⟩ := codecSound_clearFrame s
  exact { hs with
    bufferWritten := hwritten, frameFits := Nat.zero_le _, frameCounted := hcounted, sentBound := hsent,
    countBound := hcount }

/-- 44_outbound_bridge.md R252: a record is accepted only while there is room. -/
theorem keepsSound_offer {rec : Record} (hrec : LegalConfig s.cfg → recordWf s.cfg rec = true) :
    KeepsSound s (offer rec s) := by
  obtain ⟨-, h⟩ | ⟨hroom, h⟩ := offer_cases rec s <;> rw [h]
  · exact keepsSound_of_view rfl
  · refine ⟨rfl, fun hlegal hs => { hs with queueBound := ?_, queueRecords := fun r hr => ?_ }⟩
    · have hbound := hs.queueBound
      simp only [List.length_append, List.length_singleton]
      omega
    · obtain hold | hnew := List.mem_append.1 hr
      · exact hs.queueRecords r hold
      · rw [List.mem_singleton.1 hnew]
        exact hrec hlegal

theorem keepsSound_sendStatus (st : Status) (s : State) : KeepsSound s (sendStatus st s) :=
  keepsSound_offer fun hlegal => recordWf_statusRecord hlegal.lengthFits hlegal.payloadFits st

theorem keepsSound_sendFrame (f : List Byte) (s : State) : KeepsSound s (sendFrame f s) :=
  keepsSound_offer fun hlegal => recordWf_frameRecord hlegal.lengthFits hlegal.payloadFits f

theorem keepsSound_offerChecked {rec : Record} (h : offerChecked rec s = .next t) : KeepsSound s t := by
  by_cases hwf : recordWf s.cfg rec = true
  · rw [offerChecked, if_pos hwf] at h
    cases h
    exact keepsSound_offer fun _ => hwf
  · rw [offerChecked, if_neg hwf] at h
    cases h

/-- POP takes the head of the queue (44_outbound_bridge.md R254). -/
theorem keepsSound_execEvPop (h : execEvPop s = .next t) : KeepsSound s t := by
  obtain ⟨r, rest, hqueue, rfl⟩ := execEvPop_cases h
  refine ⟨rfl, fun _ hs => { hs with queueBound := ?_, queueRecords := fun r' hr' => ?_ }⟩
  · have hbound := hs.queueBound
    rw [hqueue, List.length_cons] at hbound
    exact (Nat.le_succ _).trans hbound
  · exact hs.queueRecords r' (hqueue ▸ List.mem_cons_of_mem _ hr')

/-! ### The Link Driver -/

theorem keepsSound_rxArrive (b : Byte) (s : State) : KeepsSound s (rxArrive b s) := by
  obtain ⟨-, h⟩ | ⟨-, -, h⟩ | ⟨-, hroom, h⟩ := rxArrive_cases b s <;> rw [h]
  · exact keepsSound_of_view rfl
  · exact keepsSound_of_view rfl
  · refine ⟨rfl, fun _ hs => { hs with fifoBound := ?_ }⟩
    have hbound := hs.fifoBound
    simp only [List.length_append, List.length_singleton]
    omega

theorem keepsSound_rxArriveAll (bs : List Byte) (s : State) : KeepsSound s (rxArriveAll bs s) := by
  induction bs generalizing s with
  | nil => exact keepsSound_of_view rfl
  | cons b bs ih => exact (keepsSound_rxArrive b s).trans (ih (rxArrive b s))

theorem keepsSound_setLineMode {m : LineMode} (hm : m ≠ .unused3) (s : State) : KeepsSound s (setLineMode m s) :=
  keepsSound_of_line (fun _ => hm) le_rfl rfl

theorem keepsSound_flushRx (s : State) : KeepsSound s (flushRx s) := keepsSound_of_line id (Nat.zero_le _) rfl

/-! ### Control -/

theorem keepsSound_powerOn (s : State) : KeepsSound s (powerOn s) :=
  ⟨rfl, fun _ _ => sound_of_empty rfl rfl rfl rfl rfl rfl LineMode.noConfusion⟩

/-- 43_tick_scheduler.md R222: the session fields of a START are the cleared frame's, with the line up and the FIFO empty. -/
theorem keepsSound_resetSession (now : Time) (s : State) : KeepsSound s (resetSession now s) :=
  (keepsSound_clearFrame s).trans (keepsSound_of_line (fun _ => LineMode.noConfusion) (Nat.zero_le _) rfl)

theorem keepsSound_startBlock {l d : Bool} {c : ResultCode} (h : startBlock now l d s = .ok (t, c)) :
    KeepsSound s t := by
  have hreset := keepsSound_resetSession now s
  obtain ⟨-, ⟨-, -, rfl⟩ | ⟨-, -, -, rfl⟩ | ⟨-, -, -, ⟨-, -, rfl⟩ | ⟨-, -, rfl⟩⟩⟩ := startBlock_cases h
  · exact keepsSound_of_view rfl
  · exact keepsSound_of_view rfl
  · rw [sessionReset_sampled]
    exact hreset.trans (keepsSound_of_view rfl)
  · rw [sessionReset_sampled]
    exact hreset.trans (keepsSound_of_line (fun _ => LineMode.noConfusion) (Nat.zero_le _) rfl)

theorem keepsSound_stopBlock (d l : Bool) (s : State) : KeepsSound s (stopBlock d l s).1 := by
  obtain ⟨-, h⟩ | ⟨-, -, h⟩ | ⟨-, -, -, h⟩ | ⟨-, -, -, h⟩ := stopBlock_cases d l s <;> rw [h]
  · exact keepsSound_of_view rfl
  · exact keepsSound_of_view rfl
  · exact keepsSound_of_line (fun _ => LineMode.noConfusion) (Nat.zero_le _) rfl
  · exact keepsSound_of_line (fun _ => LineMode.noConfusion) (Nat.zero_le _) rfl

theorem keepsSound_dispatchStart {l d : Bool} (h : dispatchStart now l d s = .next t) : KeepsSound s t := by
  obtain ⟨c, hb⟩ := dispatchStart_cases h
  exact keepsSound_startBlock hb

theorem keepsSound_execEvPayload {p : List Byte} {li ts tp ld : Bool} (h : execEvPayload p now li ts tp ld s = .next t) :
    KeepsSound s t := by
  obtain ⟨-, c, hb⟩ | rfl | rfl | rfl := execEvPayload_cases h
  · exact keepsSound_startBlock hb
  · exact keepsSound_stopBlock tp ld s
  · exact (keepsSound_stopBlock tp ld s).trans (keepsSound_of_view rfl)
  · exact keepsSound_of_view rfl

/-! ### The codec -/

/-- FEED stores below `FRAME_CAP` and in order of address (40_frame_codec.md R129, R133). -/
theorem feedByte_keeps_buffer {b : Byte} {ev : FrameEvent} (hs : Sound s) (h : feedByte b s = .ok (t, ev)) :
    Memory.wf t.frameBuf = true ∧ (∀ c ∈ t.frameBuf, c.1 < s.cfg.frameCap) ∧ t.frameLen.toNat ≤ s.cfg.frameCap := by
  have hlen := genuineStart_frameLen_le s
  have hfits := hs.frameFits
  obtain ⟨-, ⟨-, -, rfl⟩ | ⟨-, ⟨-, -, ⟨hroom, hcount, rfl⟩ | ⟨-, rfl⟩⟩ | ⟨-, f, -, rfl, -⟩⟩⟩ := feedByte_cases h
  · exact ⟨hs.bufferSorted, hs.bufferInside, hfits⟩
  · obtain ⟨-, hnext, -⟩ := countSucc_some (countSucc_of_lt hcount)
    refine ⟨memWrite_wf _ _ hs.bufferSorted, fun c hc => ?_, by simp only [hnext]; omega⟩
    obtain rfl | hold := mem_memWrite hc
    · exact hroom
    · exact hs.bufferInside c hold
  · simp only [emit_frameBuf, emit_frameLen, summed, genuineStart_frameBuf]
    exact ⟨hs.bufferSorted, hs.bufferInside, hlen.trans hfits⟩
  · simp only [clearFrame_frameBuf, genuineStart_frameBuf]
    exact ⟨hs.bufferSorted, hs.bufferInside, Nat.zero_le _⟩

theorem keepsSound_feedByte {b : Byte} {ev : FrameEvent} (h : feedByte b s = .ok (t, ev)) : KeepsSound s t := by
  have hcfg : t.cfg = s.cfg := by rw [feedByte_frame h]
  refine ⟨hcfg, fun _ hs => ?_⟩
  obtain ⟨hwritten, hcounted, hsent, hcount⟩ := (codecSound_of_sound hs).feed h
  obtain ⟨hsorted, hinside, hfits⟩ := feedByte_keeps_buffer hs h
  have hqueue : t.queue = s.queue := by rw [feedByte_frame h]
  have hfifo : t.rxFifo = s.rxFifo := by rw [feedByte_frame h]
  have hmode : t.lineMode = s.lineMode := by rw [feedByte_frame h]
  exact {
    bufferSorted := hsorted
    bufferInside := by rwa [hcfg]
    bufferWritten := hwritten
    frameFits := by rwa [hcfg]
    frameCounted := hcounted
    sentBound := hsent
    countBound := hcount
    queueBound := by rw [hqueue, hcfg]; exact hs.queueBound
    queueRecords := by rw [hqueue, hcfg]; exact hs.queueRecords
    fifoBound := by rw [hfifo, hcfg]; exact hs.fifoBound
    modeWritten := by rw [hmode]; exact hs.modeWritten }

/-! ### The protocol state machine -/

theorem keepsSound_toInit (now : Time) (s : State) : KeepsSound s (toInit now s) := by
  have hentered : KeepsSound _ (toInit now s) := keepsSound_sendStatus .init _
  exact (keepsSound_clearFrame s).trans (hentered.afterLine (fun _ => LineMode.noConfusion) le_rfl rfl)

theorem keepsSound_toStartSession (now : Time) (s : State) : KeepsSound s (toStartSession now s) := by
  have hentered : KeepsSound _ (toStartSession now s) := keepsSound_sendStatus .startSession _
  exact (keepsSound_clearFrame s).trans (hentered.after rfl)

theorem keepsSound_toActive (now : Time) (s : State) : KeepsSound s (toActive now s) := by
  have hentered : KeepsSound _ (toActive now s) := keepsSound_sendStatus .active _
  exact hentered.after rfl

theorem keepsSound_fastInitDone (now : Time) (s : State) : KeepsSound s (fastInitDone now s) := by
  have hline : KeepsSound s (setLineLevel .high (setLineMode .uart (flushRx s))) :=
    keepsSound_of_line (fun _ => LineMode.noConfusion) (Nat.zero_le _) rfl
  exact hline.trans (keepsSound_toStartSession now _)

theorem keepsSound_onSequencerEvent (now : Time) (ev : SequencerEvent) (s : State) :
    KeepsSound s (onSequencerEvent now ev s) := by
  cases ev with
  | inProgress => exact keepsSound_of_view rfl
  | done => exact keepsSound_fastInitDone now s

theorem keepsSound_sequencerStep (now : Time) (s : State) : KeepsSound s (sequencerStep now s).1 := by
  obtain ⟨-, l, h⟩ | ⟨-, h⟩ := sequencerStep_cases now s <;> rw [h] <;> exact keepsSound_of_view rfl

theorem keepsSound_tickInInit (now : Time) (s : State) : KeepsSound s (tickInInit now s) :=
  (keepsSound_sequencerStep now s).trans (keepsSound_onSequencerEvent now _ _)

theorem keepsSound_onFrameEvent (now : Time) (ev : FrameEvent) (s : State) : KeepsSound s (onFrameEvent now ev s) := by
  obtain ⟨-, h⟩ | ⟨f, -, ⟨-, h⟩ | ⟨-, h⟩⟩ | ⟨r, c, -, ⟨-, h⟩ | ⟨-, h⟩⟩ := onFrameEvent_cases now ev s <;> rw [h]
  · exact keepsSound_of_view rfl
  · exact (keepsSound_toActive now { s with lastFrameEnd := now }).after rfl
  · exact (keepsSound_sendFrame f { s with lastFrameEnd := now, errorCounter := 0 }).after rfl
  · exact (keepsSound_toInit now { raise (.x1 r c) s with lastFrameEnd := now }).after rfl
  · exact keepsSound_of_view rfl

theorem keepsSound_drainByte {b : Byte} {rest : List Byte} (hfifo : s.rxFifo = b :: rest)
    (h : drainByte now b rest s = .ok t) : KeepsSound s t := by
  obtain ⟨u, ev, hfeed, rfl⟩ := drainByte_cases h
  have hpopped : KeepsSound s { s with rxFifo := rest, watchdogDeadline := deadlineFrom now s } :=
    keepsSound_of_line id (by simp [hfifo]) rfl
  exact (hpopped.trans (keepsSound_feedByte hfeed)).trans (keepsSound_onFrameEvent now ev u)

theorem keepsSound_drain (h : drain now s = .ok t) : KeepsSound s t :=
  drain_keeps (P := KeepsSound s) (fun _ _ _ _ hu _ hfifo hv => hu.trans (keepsSound_drainByte hfifo hv))
    (keepsSound_of_view rfl) h

/-- A transmission step raises `sent_count` to at most the command's length (42_protocol_fsm.md R183). -/
theorem keepsSound_transmit (now : Time) (s : State) : KeepsSound s (transmit now s) := by
  obtain h | ⟨hunsent, -, n, hn, h⟩ := transmit_cases now s <;> rw [h]
  · exact keepsSound_of_view rfl
  · have hcommand := commandOf_length s.pstate
    have hchunk := chunkLength_le s.cfg.txChunk ((commandOf s.pstate).length - s.sentCount.toNat)
    have hsent : (BitVec.ofNat 16 (s.sentCount.toNat + n)).toNat = s.sentCount.toNat + n :=
      Nat.mod_eq_of_lt (by omega)
    refine ⟨rfl, fun _ hs => { hs with sentBound := ?_, countBound := ?_ }⟩
    · simp only [hsent]
      omega
    · have hcount := hs.countBound
      simp only [txBytes_eq, emit_inCount, emit_expectedLength, hsent]
      omega

theorem keepsSound_checkThreshold (now : Time) (s : State) : KeepsSound s (checkThreshold now s).1 := by
  obtain ⟨-, h⟩ | ⟨-, h⟩ := checkThreshold_cases now s <;> rw [h]
  · exact (keepsSound_toStartSession now { s with lastFrameEnd := now }).after rfl
  · exact keepsSound_of_view rfl

theorem keepsSound_checkWatchdog {r : Bool} (h : checkWatchdog now s = .ok (t, r)) : KeepsSound s t := by
  obtain ⟨-, -, rfl⟩ | ⟨-, -, ⟨-, rfl⟩ | ⟨-, rfl⟩⟩ := checkWatchdog_cases h
  · exact keepsSound_of_view rfl
  · exact (keepsSound_toInit now { raise (.x2 now s.watchdogDeadline) s with lastFrameEnd := now }).after rfl
  · exact (keepsSound_toStartSession now { raise (.x2 now s.watchdogDeadline) s with lastFrameEnd := now }).after rfl

theorem keepsSound_sessionBody (h : sessionBody now s = .ok t) : KeepsSound s t := by
  obtain ⟨-, hexpired | ⟨u, hwaits, rfl⟩⟩ | ⟨-, u, hdrain, ⟨-, rfl⟩ | ⟨-, rfl⟩⟩ := sessionBody_cases h
  · exact keepsSound_checkWatchdog hexpired
  · exact (keepsSound_checkWatchdog hwaits).trans (keepsSound_transmit now u)
  · exact (keepsSound_drain hdrain).trans (keepsSound_transmit now u)
  · exact keepsSound_drain hdrain

theorem keepsSound_tickInSession (h : tickInSession now s = .ok t) : KeepsSound s t := by
  obtain ⟨-, -, rfl⟩ | ⟨-, hbody⟩ := tickInSession_cases h
  · exact (keepsSound_toStartSession now { s with lastFrameEnd := now }).after rfl
  · exact keepsSound_sessionBody hbody

theorem keepsSound_tickInIllegal (now : Time) (s : State) : KeepsSound s (tickInIllegal now s) :=
  (keepsSound_toInit now (raise (.x3 s.pstate) s)).after rfl

theorem keepsSound_tick (h : tick now s = .ok t) : KeepsSound s t := by
  cases hp : s.pstate with
  | init => obtain rfl := tick_of_init hp h; exact keepsSound_tickInInit now s
  | startSession => exact keepsSound_sessionBody (tick_of_startSession hp h)
  | active => exact keepsSound_tickInSession (tick_of_active hp h)
  | illegal => obtain rfl := tick_of_illegal hp h; exact keepsSound_tickInIllegal now s

end

/-! ### Every instruction -/

/-- Every row keeps the configuration and `Sound`, where it answers a next state. -/
theorem keepsSound_exec {i : Instr} {s t : State} (h : exec i s = .next t) : KeepsSound s t := by
  cases i with
  | evReserved9 | evReservedA | evReservedB | evReservedC | evReservedD | evReservedE | evReservedF | recOtherKind
  | lineMode3 => cases h
  | evConnected | evDisconnected | txWrite | ctrlOther | cmdStartSession | cmdReadSensors | pstateInit
  | pstateStartSession | pstateActive | pstateIllegal | resOk | resErrLink | resErrTimer | feContinue | seInProgress =>
    cases h
    exact keepsSound_of_view rfl
  | evInit => cases h; exact keepsSound_powerOn s
  | evStart now l d =>
    obtain ⟨u, c, hb, rfl⟩ := execEvStart_cases h
    exact (keepsSound_startBlock hb).trans (keepsSound_of_view rfl)
  | evStop d l | ctrlFF d l | ctrl72 d l =>
    cases h
    exact (keepsSound_stopBlock d l s).trans (keepsSound_of_view rfl)
  | ctrl00 d l | ctrl73 d l => cases h; exact keepsSound_stopBlock d l s
  | evTick now =>
    obtain ⟨-, -, -, htick⟩ := execEvTick_cases h
    have hcounted : KeepsSound s (countTick now s) := keepsSound_of_view rfl
    exact hcounted.trans (keepsSound_tick htick)
  | evRxByte b => cases h; exact keepsSound_rxArrive b s
  | evPop => exact keepsSound_execEvPop h
  | evPayload p now li ts tp ld => exact keepsSound_execEvPayload h
  | ctrl01 now l d | ctrl67 now l d => exact keepsSound_dispatchStart h
  | feed b =>
    obtain ⟨ev, hfeed⟩ := execFeed_cases h
    exact keepsSound_feedByte hfeed
  | eofReset => cases h; exact keepsSound_clearFrame s
  | seqStep now => cases h; exact keepsSound_sequencerStep now s
  | txStep now => cases h; exact keepsSound_transmit now s
  | tickInit now => obtain ⟨-, ⟨⟩⟩ := withDeadline_cases h; exact keepsSound_tickInInit now s
  | tickSession now => obtain ⟨-, hr⟩ := withDeadline_cases h; exact keepsSound_tickInSession hr
  | tickIllegal now => obtain ⟨-, ⟨⟩⟩ := withDeadline_cases h; exact keepsSound_tickInIllegal now s
  | thresholdCheck now => obtain ⟨-, ⟨⟩⟩ := withDeadline_cases h; exact keepsSound_checkThreshold now s
  | rxDrain now => obtain ⟨-, hr⟩ := withDeadline_cases h; exact keepsSound_drain hr
  | watchdogCheck now =>
    obtain ⟨r, hcheck⟩ := execWatchdogCheck_cases h
    exact keepsSound_checkWatchdog hcheck
  | enterInit now => obtain ⟨-, ⟨⟩⟩ := withDeadline_cases h; exact keepsSound_toInit now s
  | enterStartSession now => obtain ⟨-, ⟨⟩⟩ := withDeadline_cases h; exact keepsSound_toStartSession now s
  | enterActive now => cases h; exact keepsSound_toActive now s
  | enqueue | recData | recText => exact keepsSound_offerChecked h
  | emitStatus | statusInit | statusStartSession | statusActive => cases h; exact keepsSound_sendStatus _ s
  | emitFrame f => cases h; exact keepsSound_sendFrame f s
  | rxFlush => cases h; exact keepsSound_flushRx s
  | respFrame => cases h; exact keepsSound_rxArriveAll _ s
  | lineOff | linePulse | lineUart => cases h; exact keepsSound_setLineMode LineMode.noConfusion s
  | feFrameReady now => cases h; exact keepsSound_onFrameEvent now _ s
  | feChecksumError now => obtain ⟨-, ⟨⟩⟩ := withDeadline_cases h; exact keepsSound_onFrameEvent now _ s
  | seDone now => obtain ⟨-, ⟨⟩⟩ := withDeadline_cases h; exact keepsSound_fastInitDone now s

/-- Settles O11: the configuration's part of `keepsSound_exec`. -/
theorem configurationNeverChanges : Obligations.ConfigurationNeverChanges :=
  fun _ _ _ h => (keepsSound_exec h).cfg

/-- Settles O8: a step that answers ran `exec` under a legal configuration, once the stimulus was taken. -/
theorem stepKeepsSound : Obligations.StepKeepsSound := by
  intro s t hs h
  obtain ⟨it, rest, i, -, -, hlegal, -, hexec⟩ := step_cases h
  have htaken : KeepsSound s { s with stimulus := rest } := keepsSound_of_view rfl
  exact (htaken.trans (keepsSound_exec hexec)).sound (configLegal_iff_legalConfig.1 hlegal) hs

end Sys2Proof.Proofs
end

section
/-! PROOFS. 10_state.md: every event keeps `InSession`. -/

namespace Sys2Proof.Proofs
open Sys2Proof.Machine Sys2Proof.Safety

/-! ### The events that are no tick -/

/-- The fields that `InSession` reads, every other field at its reset value. -/
def sessionView (s : State) : State :=
  { State.reset with
    running := s.running, pstate := s.pstate, sequencer := s.sequencer, inCount := s.inCount, sentCount := s.sentCount,
    lastFrameEnd := s.lastFrameEnd, watchdogDeadline := s.watchdogDeadline, errorCounter := s.errorCounter,
    rxFifo := s.rxFifo, lineMode := s.lineMode, tickOrigin := s.tickOrigin, lastSample := s.lastSample, cfg := s.cfg }

theorem inSession_sessionView {s : State} : InSession (sessionView s) ↔ InSession s :=
  ⟨fun h => { h with }, fun h => { h with }⟩

section
variable {now : Time} {s t u : State}

theorem inSession_of_view (hs : InSession s) (h : sessionView t = sessionView s) : InSession t :=
  inSession_sessionView.1 (h ▸ inSession_sessionView.2 hs)

/-- A later sample of `now` leaves every recorded time in the past (10_state.md R45). -/
theorem inSession_sampled (hs : InSession s) (hsample : s.lastSample.toNat ≤ now.toNat) :
    InSession (sampled now s) :=
  { hs with
    frameEndPast := hs.frameEndPast.trans hsample
    deadlineNear := hs.deadlineNear.trans (Nat.add_le_add_right hsample _)
    latchPast := hs.latchPast.trans hsample
    originPast := hs.originPast.trans hsample }

/-- 10_state.md R45: a deadline that fits is exact. -/
theorem toNat_deadlineFrom (hfits : now.toNat + s.cfg.t3Us < 2 ^ 64) :
    (deadlineFrom now s).toNat = now.toNat + s.cfg.t3Us := by
  rw [deadlineFrom, BitVec.toNat_ofNat]
  exact Nat.mod_eq_of_lt hfits

/-- 43_tick_scheduler.md R222: the session fields a START resets, at its own `now`. -/
theorem inSession_resetSession (hs : InSession s) (hsample : s.lastSample.toNat ≤ now.toNat)
    (hfits : now.toNat + s.cfg.t3Us < 2 ^ 64) : InSession (resetSession now s) where
  legalState := PState.noConfusion
  initSent := fun _ => rfl
  initCount := fun _ => rfl
  offEmpty := fun _ => rfl
  initPulse := fun _ _ => rfl
  sessionUart := fun _ hp => absurd rfl hp
  errorsInActive := fun _ => rfl
  frameEndPast := le_rfl
  deadlineNear := (toNat_deadlineFrom hfits).le
  latchPast := hs.latchPast.trans hsample
  originPast := hs.originPast.trans hsample

theorem inSession_startBlock {l d : Bool} {c : ResultCode} (hs : InSession s)
    (h : startBlock now l d s = .ok (t, c)) : InSession t := by
  obtain ⟨hsample, ⟨-, -, rfl⟩ | ⟨-, -, -, rfl⟩ | ⟨hstopped, -, hfits, ⟨-, -, rfl⟩ | ⟨-, -, rfl⟩⟩⟩ := startBlock_cases h
  · exact inSession_sampled hs hsample
  · exact inSession_of_view (inSession_sampled hs hsample) rfl
  · have hreset := inSession_resetSession hs hsample hfits
    rw [sessionReset_sampled]
    exact { hreset with
      initPulse := fun _ _ => rfl, sessionUart := fun _ hp => absurd rfl hp, latchPast := Nat.zero_le _,
      originPast := le_rfl }
  · have hreset := inSession_resetSession hs hsample hfits
    have hreleased : (resetSession now s).running = false := hstopped
    rw [sessionReset_sampled]
    exact { hreset with
      offEmpty := fun _ => rfl
      initPulse := fun hrunning => absurd hrunning (by simp [hreleased])
      sessionUart := fun hrunning => absurd hrunning (by simp [hreleased]) }

/-- 43_tick_scheduler.md R226: a stopped block has no line mode to keep, and its FIFO is flushed. -/
theorem inSession_stopped (hs : InSession s) : InSession (stopped s) :=
  { hs with
    offEmpty := fun _ => rfl
    initPulse := fun hrunning => absurd hrunning Bool.false_ne_true
    sessionUart := fun hrunning => absurd hrunning Bool.false_ne_true }

theorem inSession_stopBlock (hs : InSession s) (d l : Bool) : InSession (stopBlock d l s).1 := by
  obtain ⟨-, h⟩ | ⟨-, -, h⟩ | ⟨-, -, -, h⟩ | ⟨-, -, -, h⟩ := stopBlock_cases d l s <;> rw [h]
  · exact hs
  · exact inSession_of_view hs rfl
  · exact inSession_stopped hs
  · exact inSession_of_view (inSession_stopped hs) rfl

theorem inSession_payload {p : List Byte} {li ts tp ld : Bool} (hs : InSession s)
    (h : execEvPayload p now li ts tp ld s = .next t) : InSession t := by
  obtain ⟨-, c, hb⟩ | rfl | rfl | rfl := execEvPayload_cases h
  · exact inSession_startBlock hs hb
  · exact inSession_stopBlock hs tp ld
  · exact inSession_of_view (inSession_stopBlock hs tp ld) rfl
  · exact hs

theorem inSession_rxArrive (hs : InSession s) (b : Byte) : InSession (rxArrive b s) :=
  { hs with offEmpty := OffEmpty.rxArrive hs.offEmpty b }

/-! ### The tick -/

/-- What every operation of a tick at `now` finds and leaves beside the session's own invariant: the block runs, `now` is the
last sample, its deadline fits, and no recorded time is past it. -/
structure Timed (now : Time) (s : State) : Prop where
  running : s.running = true
  sampled : s.lastSample = now
  fits : now.toNat + s.cfg.t3Us < 2 ^ 64
  frameEndPast : s.lastFrameEnd.toNat ≤ s.lastSample.toNat
  latchPast : (s.sequencer.start.getD 0).toNat ≤ s.lastSample.toNat
  originPast : s.tickOrigin.toNat ≤ s.lastSample.toNat

/-- The invariant of a tick's operations. -/
structure InTick (now : Time) (s : State) : Prop where
  timed : Timed now s
  session : InSession s

theorem Timed.of_view (hs : Timed now s) (h : sessionView t = sessionView s) : Timed now t := by
  have hview : Timed now (sessionView t) := h ▸ { hs with }
  exact { hview with }

theorem InTick.of_view (hs : InTick now s) (h : sessionView t = sessionView s) : InTick now t :=
  ⟨hs.timed.of_view h, inSession_of_view hs.session h⟩

/-- A frame end at `now` (42_protocol_fsm.md R175). -/
theorem Timed.frameEnd (hs : Timed now s) : Timed now { s with lastFrameEnd := now } :=
  { hs with frameEndPast := by rw [hs.sampled] }

theorem InTick.frameEnd (hs : InTick now s) : InTick now { s with lastFrameEnd := now } :=
  ⟨hs.timed.frameEnd, { hs.session with frameEndPast := hs.timed.frameEnd.frameEndPast }⟩

/-- The new deadline lies `T3_US` after the sample. -/
theorem Timed.deadlineNear (hs : Timed now s) : (deadlineFrom now s).toNat ≤ s.lastSample.toNat + s.cfg.t3Us := by
  rw [toNat_deadlineFrom hs.fits, hs.sampled]

/-- While the block runs outside Init its line is in UART (10_state.md R36). -/
theorem InTick.uart (hs : InTick now s) (hp : s.pstate ≠ .init) : s.lineMode = .uart :=
  hs.session.sessionUart hs.timed.running hp

/-- 42_protocol_fsm.md R187: the Init entry needs nothing of the session it leaves. -/
theorem Timed.toInit (hs : Timed now s) : InTick now (toInit now s) := by
  have hend : now.toNat ≤ s.lastSample.toNat := by rw [hs.sampled]
  refine ⟨{ hs with frameEndPast := hend }, ?_⟩
  exact {
    legalState := PState.noConfusion
    initSent := fun _ => rfl
    initCount := fun _ => rfl
    offEmpty := fun hoff => LineMode.noConfusion hoff
    initPulse := fun _ _ => rfl
    sessionUart := fun _ hp => absurd rfl hp
    errorsInActive := fun _ => rfl
    frameEndPast := hend
    deadlineNear := hs.deadlineNear
    latchPast := hs.latchPast
    originPast := hs.originPast }

/-- 42_protocol_fsm.md R188: the StartSession entry needs a line in UART. -/
theorem Timed.toStartSession (hs : Timed now s) (hmode : s.lineMode = .uart) : InTick now (toStartSession now s) := by
  refine ⟨{ hs with }, ?_⟩
  exact {
    legalState := PState.noConfusion
    initSent := fun hp => PState.noConfusion hp
    initCount := fun hp => PState.noConfusion hp
    offEmpty := fun hoff => LineMode.noConfusion (hmode.symm.trans hoff)
    initPulse := fun _ hp => PState.noConfusion hp
    sessionUart := fun _ _ => hmode
    errorsInActive := fun _ => rfl
    frameEndPast := hs.frameEndPast
    deadlineNear := hs.deadlineNear
    latchPast := hs.latchPast
    originPast := hs.originPast }

/-- 42_protocol_fsm.md R189. -/
theorem InTick.toActive (hs : InTick now s) (hp : s.pstate ≠ .init) : InTick now (toActive now s) := by
  refine ⟨{ hs.timed with }, ?_⟩
  exact { hs.session with
    legalState := PState.noConfusion
    initSent := fun hinit => PState.noConfusion hinit
    initCount := fun hinit => PState.noConfusion hinit
    initPulse := fun _ hinit => PState.noConfusion hinit
    sessionUart := fun _ _ => hs.uart hp
    errorsInActive := fun hnot => absurd rfl hnot }

/-- 42_protocol_fsm.md R171, R172: an Init tick latches a start that is no later than `now`, and after the last call enters
StartSession with the line in UART. -/
theorem InTick.tickInInit (hs : InTick now s) : InTick now (tickInInit now s) := by
  have hlatched : (latchedStart now s).toNat ≤ s.lastSample.toNat := by
    cases hq : s.sequencer with
    | idle last => simp only [latchedStart, hq, hs.timed.sampled, le_rfl]
    | latched start => simpa [latchedStart, hq] using hs.timed.latchPast
  rw [Machine.tickInInit]
  obtain ⟨-, l, h⟩ | ⟨-, h⟩ := sequencerStep_cases now s <;> rw [h]
  · exact ⟨{ hs.timed with latchPast := hlatched }, { hs.session with latchPast := hlatched }⟩
  · have hdone : Timed now (clearLatch (setLineLevel .high (latchStart now s))) := { hs.timed with latchPast := hlatched }
    have hline : Timed now (setLineLevel .high (setLineMode .uart (flushRx
        (clearLatch (setLineLevel .high (latchStart now s)))))) := { hdone with }
    exact hline.toStartSession rfl

/-- 42_protocol_fsm.md R176: a byte is taken and the watchdog re-armed. -/
theorem InTick.popped (hs : InTick now s) (hp : s.pstate ≠ .init) (rest : List Byte) :
    InTick now { s with rxFifo := rest, watchdogDeadline := deadlineFrom now s } := by
  refine ⟨{ hs.timed with }, { hs.session with offEmpty := fun hoff => ?_, deadlineNear := hs.timed.deadlineNear }⟩
  exact LineMode.noConfusion ((hs.uart hp).symm.trans hoff)

/-- FEED outside Init moves only the codec's counters. -/
theorem InTick.feed {b : Byte} {ev : FrameEvent} (hs : InTick now s) (hp : s.pstate ≠ .init)
    (h : feedByte b s = .ok (t, ev)) : InTick now t := by
  rw [feedByte_frame h]
  exact ⟨{ hs.timed with },
    { hs.session with initSent := fun hinit => absurd hinit hp, initCount := fun hinit => absurd hinit hp }⟩

theorem InTick.onFrameEvent (hs : InTick now s) (hp : s.pstate ≠ .init) (ev : FrameEvent) :
    InTick now (onFrameEvent now ev s) := by
  obtain ⟨-, h⟩ | ⟨f, -, ⟨-, h⟩ | ⟨hnot, h⟩⟩ | ⟨r, c, -, ⟨-, h⟩ | ⟨hnot, h⟩⟩ := onFrameEvent_cases now ev s <;> rw [h]
  · exact hs
  · exact hs.frameEnd.toActive hp
  · exact ⟨{ hs.frameEnd.timed with }, { hs.frameEnd.session with errorsInActive := fun _ => rfl }⟩
  · have hraised : Timed now (raise (.x1 r c) s) := hs.timed.of_view rfl
    exact hraised.frameEnd.toInit
  · have hraised : InTick now (raise (.x1 r c) s) := hs.of_view rfl
    refine ⟨{ hraised.frameEnd.timed with },
      { hraised.frameEnd.session with errorsInActive := fun hnotActive => absurd ?_ hnotActive }⟩
    cases hstate : s.pstate with
    | init => exact absurd hstate hp
    | startSession => exact absurd hstate hnot
    | active => exact hstate
    | illegal => exact absurd hstate hs.session.legalState

theorem InTick.drainByte {b : Byte} {rest : List Byte} (hs : InTick now s) (hp : s.pstate ≠ .init)
    (h : drainByte now b rest s = .ok t) : InTick now t := by
  obtain ⟨u, ev, hfeed, rfl⟩ := drainByte_cases h
  have hu : u.pstate ≠ .init := by rwa [feedByte_frame hfeed]
  exact ((hs.popped hp rest).feed hp hfeed).onFrameEvent hu ev

theorem InTick.drain (hs : InTick now s) (hp : s.pstate ≠ .init) (h : drain now s = .ok t) : InTick now t :=
  drain_keeps (P := InTick now) (fun _ _ _ _ hu hstate _ hv => hu.drainByte (by rwa [hstate]) hv) hs h

theorem InTick.transmit (hs : InTick now s) (hp : s.pstate ≠ .init) : InTick now (transmit now s) := by
  rw [transmit_frame]
  exact ⟨{ hs.timed with }, { hs.session with initSent := fun hinit => absurd hinit hp }⟩

/-- 42_protocol_fsm.md R184, R185: a timeout enters Init or StartSession, past a frame end at `now`. -/
theorem InTick.sessionBody (hs : InTick now s) (hp : s.pstate ≠ .init) (h : sessionBody now s = .ok t) :
    InTick now t := by
  by_cases hempty : s.rxFifo = []
  · have hraised : Timed now (raise (.x2 now s.watchdogDeadline) s) := hs.timed.of_view rfl
    obtain ⟨-, ⟨-, rfl⟩ | ⟨-, rfl⟩⟩ | ⟨-, rfl⟩ := sessionBody_cases_of_empty hempty h
    · exact hraised.frameEnd.toInit
    · exact hraised.frameEnd.toStartSession (hs.uart hp)
    · exact hs.transmit hp
  · obtain ⟨hnone, -⟩ | ⟨-, u, hdrain, ⟨hstay, rfl⟩ | ⟨-, rfl⟩⟩ := sessionBody_cases h
    · exact absurd hnone hempty
    · exact (hs.drain hp hdrain).transmit (by rwa [hstay])
    · exact hs.drain hp hdrain

theorem InTick.tick (hs : InTick now s) (h : tick now s = .ok t) : InTick now t := by
  cases hp : s.pstate with
  | init => obtain rfl := tick_of_init hp h; exact hs.tickInInit
  | startSession => exact hs.sessionBody (by simp [hp]) (tick_of_startSession hp h)
  | active =>
    obtain ⟨-, -, rfl⟩ | ⟨-, hbody⟩ := tickInSession_cases (tick_of_active hp h)
    · exact hs.timed.frameEnd.toStartSession (hs.uart (by simp [hp]))
    · exact hs.sessionBody (by simp [hp]) hbody
  | illegal => exact absurd hp hs.session.legalState

/-- An enabled tick starts from a running block whose last sample is its `now` (43_tick_scheduler.md R221). -/
theorem inSession_execEvTick (hs : InSession s) (h : execEvTick now s = .next t) : InSession t := by
  obtain ⟨hrunning, -, hsampled, htick⟩ := execEvTick_cases h
  obtain ⟨hsample, hfits⟩ := sampleRefusal_none.1 hsampled
  have hcounted : InSession (countTick now s) := inSession_of_view (inSession_sampled hs hsample) rfl
  have htimed : Timed now (countTick now s) :=
    ⟨hrunning, rfl, hfits, hcounted.frameEndPast, hcounted.latchPast, hcounted.originPast⟩
  exact (InTick.tick ⟨htimed, hcounted⟩ htick).session

/-! ### Every event -/

theorem inSession_event {i : Instr} (hs : InSession s) (hevent : isEvent i = true) (h : exec i s = .next t) :
    InSession t := by
  cases i with
  | evInit => cases h; exact inSession_of_powerOn rfl rfl rfl rfl rfl rfl rfl rfl rfl hs.originPast
  | evStart now l d =>
    obtain ⟨u, c, hb, rfl⟩ := execEvStart_cases h
    exact inSession_of_view (inSession_startBlock hs hb) rfl
  | evStop d l => cases h; exact inSession_of_view (inSession_stopBlock hs d l) rfl
  | evTick now => exact inSession_execEvTick hs h
  | evRxByte b => cases h; exact inSession_rxArrive hs b
  | evPop => obtain ⟨r, rest, -, rfl⟩ := execEvPop_cases h; exact inSession_of_view hs rfl
  | evPayload p now li ts tp ld => exact inSession_payload hs h
  | evConnected => cases h; exact hs
  | evDisconnected => cases h; exact hs
  | _ => exact absurd hevent Bool.false_ne_true

end

/-- Settles O9: `inSession_event` for the instruction of the step, once the stimulus was taken. -/
theorem eventStepKeepsInSession : Obligations.EventStepKeepsInSession := by
  intro s t _ hs hnext h
  obtain ⟨it, rest, i, hstimulus, hdecode, -, -, hexec⟩ := step_cases h
  have hevent : isEvent i = true := by simpa [nextIsEvent, fetch, hstimulus, hdecode] using hnext
  have htaken : InSession { s with stimulus := rest } := inSession_of_view hs rfl
  exact inSession_event htaken hevent hexec

end Sys2Proof.Proofs
end
